-- ==== Sys2Proof/Word.lean ====
section
/-! DEFINITION. The widths the spec names (00_scope.md R7, R8; 30_encoding.md R80). -/

namespace Sys2Proof

/-- `u8` (R7). -/
abbrev Byte := BitVec 8

/-- `u32` (R7): the width of every register (R23). -/
abbrev Word := BitVec 32

/-- `u64` (R7): COUNTER, KLEN. -/
abbrev DWord := BitVec 64

/-- The 43-bit transaction word `T` (R80, R81). -/
abbrev TWord := BitVec 43

/-- A byte offset in the 256-byte register window (R61, R81). -/
abbrev Off := BitVec 8

/-- The SIZE field: 0 = 8 bits, 1 = 16 bits, 2 = 32 bits, 3 = reserved (R60, R81). -/
abbrev Size := BitVec 2

/-- `Bytes(64)`: a SHA-1 block, KBUF, K0 (R20, R140). -/
abbrev Block := Vector Byte 64

/-- `Bytes(20)`: a digest (R5, R20). -/
abbrev Digest := Vector Byte 20

/-- Five words: a SHA-1 chaining value, KH (R20, R40, R141). -/
abbrev Hash := Vector Word 5

end Sys2Proof
end

