-- ==== Sys2Proof/Syntax.lean ====
section
/-! DEFINITION. The instructions: one constructor for each row of `spec/opcode_table.json`. An instruction is
one bus transaction (30_encoding.md R80). The operands are the fields of the transaction word that the row leaves
free. A read keeps its DATA bits, which its meaning ignores (R81), so that no bit of a word is lost. -/

namespace Sys2Proof

/-- The registers of the window, by the names of 10_state.md R23. -/
inductive Reg where
  | id | version | ctrl | status | cmd | keyWord | keyByte | keyLenLo | keyLenHi | counterHi | counterLo
  | digest0 | digest1 | digest2 | digest3 | digest4 | offset | trunc | otp | otpBcdLo | otpBcdHi
  deriving DecidableEq, Repr

/-- One bus transaction, decoded (30_encoding.md R85). -/
inductive Instr where
  /-- R62, R64: SIZE = 0. -/
  | buserrSize0 (w : Bool) (off : Off) (data : Word)
  /-- R62, R64: SIZE = 1. -/
  | buserrSize1 (w : Bool) (off : Off) (data : Word)
  /-- R62, R64: the reserved SIZE = 3. -/
  | buserrSize3 (w : Bool) (off : Off) (data : Word)
  /-- R63, R64: OFF[0] = 1. SIZE is 2 here: the rows before it take every other SIZE (R85). -/
  | buserrMisalignB0 (w : Bool) (off : Off) (data : Word)
  /-- R63, R64: OFF[1] = 1, OFF[0] = 0, SIZE = 2 (R85). -/
  | buserrMisalignB1 (w : Bool) (off : Off) (data : Word)
  /-- CMD.NOP (R228). -/
  | cmdNop
  /-- CMD.KEY_CLEAR (R103). -/
  | cmdKeyClear
  /-- CMD.KEY_FINAL (R107). -/
  | cmdKeyFinal
  /-- CMD.HOTP (R180). -/
  | cmdHotp
  /-- CMD.SOFT_RESET (R229). -/
  | cmdSoftReset
  /-- CMD.ILLEGAL (R230). -/
  | cmdIllegal (data : Word)
  /-- WR.ID (R252). -/
  | wrId (data : Word)
  /-- WR.VERSION (R253). -/
  | wrVersion (data : Word)
  /-- WR.CTRL (R224). -/
  | wrCtrl (data : Word)
  /-- WR.STATUS (R226). -/
  | wrStatus (data : Word)
  /-- WR.KEY_WORD (R105). -/
  | wrKeyWord (data : Word)
  /-- WR.KEY_BYTE (R106). -/
  | wrKeyByte (data : Word)
  /-- WR.KEY_LEN_LO (R254). -/
  | wrKeyLenLo (data : Word)
  /-- WR.KEY_LEN_HI (R255). -/
  | wrKeyLenHi (data : Word)
  /-- WR.COUNTER_HI (R236). -/
  | wrCounterHi (data : Word)
  /-- WR.COUNTER_LO (R238). -/
  | wrCounterLo (data : Word)
  /-- WR.DIGEST0 (R256). -/
  | wrDigest0 (data : Word)
  /-- WR.DIGEST1 (R257). -/
  | wrDigest1 (data : Word)
  /-- WR.DIGEST2 (R258). -/
  | wrDigest2 (data : Word)
  /-- WR.DIGEST3 (R259). -/
  | wrDigest3 (data : Word)
  /-- WR.DIGEST4 (R260). -/
  | wrDigest4 (data : Word)
  /-- WR.OFFSET (R261). -/
  | wrOffset (data : Word)
  /-- WR.TRUNC (R262). -/
  | wrTrunc (data : Word)
  /-- WR.OTP (R263). -/
  | wrOtp (data : Word)
  /-- WR.OTP_BCD_LO (R264). -/
  | wrOtpBcdLo (data : Word)
  /-- WR.OTP_BCD_HI (R265). -/
  | wrOtpBcdHi (data : Word)
  /-- RD.ID (R221). -/
  | rdId (data : Word)
  /-- RD.VERSION (R222). -/
  | rdVersion (data : Word)
  /-- RD.CTRL (R223). -/
  | rdCtrl (data : Word)
  /-- RD.STATUS (R225). -/
  | rdStatus (data : Word)
  /-- RD.CMD (R227). -/
  | rdCmd (data : Word)
  /-- RD.KEY_WORD (R231). -/
  | rdKeyWord (data : Word)
  /-- RD.KEY_BYTE (R232). -/
  | rdKeyByte (data : Word)
  /-- RD.KEY_LEN_LO (R233). -/
  | rdKeyLenLo (data : Word)
  /-- RD.KEY_LEN_HI (R234). -/
  | rdKeyLenHi (data : Word)
  /-- RD.COUNTER_HI (R235). -/
  | rdCounterHi (data : Word)
  /-- RD.COUNTER_LO (R237). -/
  | rdCounterLo (data : Word)
  /-- RD.DIGEST0 (R239). -/
  | rdDigest0 (data : Word)
  /-- RD.DIGEST1 (R240). -/
  | rdDigest1 (data : Word)
  /-- RD.DIGEST2 (R241). -/
  | rdDigest2 (data : Word)
  /-- RD.DIGEST3 (R242). -/
  | rdDigest3 (data : Word)
  /-- RD.DIGEST4 (R243). -/
  | rdDigest4 (data : Word)
  /-- RD.OFFSET (R244). -/
  | rdOffset (data : Word)
  /-- RD.TRUNC (R245). -/
  | rdTrunc (data : Word)
  /-- RD.OTP (R246). -/
  | rdOtp (data : Word)
  /-- RD.OTP_BCD_LO (R247). -/
  | rdOtpBcdLo (data : Word)
  /-- RD.OTP_BCD_HI (R248). -/
  | rdOtpBcdHi (data : Word)
  /-- RD.RSVD (R249). -/
  | rdRsvd (off : Off) (data : Word)
  /-- WR.RSVD (R250). -/
  | wrRsvd (off : Off) (data : Word)
  deriving DecidableEq, Repr

/-- The row of `spec/opcode_table.json` an instruction stands for, as the table spells it. -/
def Instr.mnemonic : Instr → String
  | .buserrSize0 _ _ _ => "BUSERR.SIZE0"
  | .buserrSize1 _ _ _ => "BUSERR.SIZE1"
  | .buserrSize3 _ _ _ => "BUSERR.SIZE3"
  | .buserrMisalignB0 _ _ _ => "BUSERR.MISALIGN_B0"
  | .buserrMisalignB1 _ _ _ => "BUSERR.MISALIGN_B1"
  | .cmdNop => "CMD.NOP"
  | .cmdKeyClear => "CMD.KEY_CLEAR"
  | .cmdKeyFinal => "CMD.KEY_FINAL"
  | .cmdHotp => "CMD.HOTP"
  | .cmdSoftReset => "CMD.SOFT_RESET"
  | .cmdIllegal _ => "CMD.ILLEGAL"
  | .wrId _ => "WR.ID"
  | .wrVersion _ => "WR.VERSION"
  | .wrCtrl _ => "WR.CTRL"
  | .wrStatus _ => "WR.STATUS"
  | .wrKeyWord _ => "WR.KEY_WORD"
  | .wrKeyByte _ => "WR.KEY_BYTE"
  | .wrKeyLenLo _ => "WR.KEY_LEN_LO"
  | .wrKeyLenHi _ => "WR.KEY_LEN_HI"
  | .wrCounterHi _ => "WR.COUNTER_HI"
  | .wrCounterLo _ => "WR.COUNTER_LO"
  | .wrDigest0 _ => "WR.DIGEST0"
  | .wrDigest1 _ => "WR.DIGEST1"
  | .wrDigest2 _ => "WR.DIGEST2"
  | .wrDigest3 _ => "WR.DIGEST3"
  | .wrDigest4 _ => "WR.DIGEST4"
  | .wrOffset _ => "WR.OFFSET"
  | .wrTrunc _ => "WR.TRUNC"
  | .wrOtp _ => "WR.OTP"
  | .wrOtpBcdLo _ => "WR.OTP_BCD_LO"
  | .wrOtpBcdHi _ => "WR.OTP_BCD_HI"
  | .rdId _ => "RD.ID"
  | .rdVersion _ => "RD.VERSION"
  | .rdCtrl _ => "RD.CTRL"
  | .rdStatus _ => "RD.STATUS"
  | .rdCmd _ => "RD.CMD"
  | .rdKeyWord _ => "RD.KEY_WORD"
  | .rdKeyByte _ => "RD.KEY_BYTE"
  | .rdKeyLenLo _ => "RD.KEY_LEN_LO"
  | .rdKeyLenHi _ => "RD.KEY_LEN_HI"
  | .rdCounterHi _ => "RD.COUNTER_HI"
  | .rdCounterLo _ => "RD.COUNTER_LO"
  | .rdDigest0 _ => "RD.DIGEST0"
  | .rdDigest1 _ => "RD.DIGEST1"
  | .rdDigest2 _ => "RD.DIGEST2"
  | .rdDigest3 _ => "RD.DIGEST3"
  | .rdDigest4 _ => "RD.DIGEST4"
  | .rdOffset _ => "RD.OFFSET"
  | .rdTrunc _ => "RD.TRUNC"
  | .rdOtp _ => "RD.OTP"
  | .rdOtpBcdLo _ => "RD.OTP_BCD_LO"
  | .rdOtpBcdHi _ => "RD.OTP_BCD_HI"
  | .rdRsvd _ _ => "RD.RSVD"
  | .wrRsvd _ _ => "WR.RSVD"

end Sys2Proof
end

