-- ==== Sys2Proof/WellFormed.lean ====
section
/-! DEFINITION. Which instructions a transaction word can select (30_encoding.md R85, R86). -/

namespace Sys2Proof

/-- The offsets no register has: 0x2C and 0x58 to 0xFC, aligned (10_state.md R38). -/
def reservedOffset (off : Off) : Bool :=
  off.toNat % 4 == 0 && (off.toNat == 0x2C || 0x58 ≤ off.toNat)

/-- The legal command words (30_encoding.md R83). -/
def legalCommand (data : Word) : Bool :=
  data == 0x0 || data == 0x1 || data == 0x2 || data == 0x3 || data == 0xF

/-- The check each constructor's operands meet: the misaligned rows are misaligned in the bit they name,
CMD.ILLEGAL carries no legal command, and the RSVD rows name a reserved offset. -/
def Instr.wf : Instr → Bool
  | .buserrSize0 _ _ _ | .buserrSize1 _ _ _ | .buserrSize3 _ _ _ => true
  | .buserrMisalignB0 _ off _ => off.getLsbD 0
  | .buserrMisalignB1 _ off _ => !off.getLsbD 0 && off.getLsbD 1
  | .cmdNop | .cmdKeyClear | .cmdKeyFinal | .cmdHotp | .cmdSoftReset => true
  | .cmdIllegal data => !legalCommand data
  | .rdRsvd off _ | .wrRsvd off _ => reservedOffset off
  | .wrId _ | .wrVersion _ | .wrCtrl _ | .wrStatus _ | .wrKeyWord _ | .wrKeyByte _
  | .wrKeyLenLo _ | .wrKeyLenHi _ | .wrCounterHi _ | .wrCounterLo _
  | .wrDigest0 _ | .wrDigest1 _ | .wrDigest2 _ | .wrDigest3 _ | .wrDigest4 _
  | .wrOffset _ | .wrTrunc _ | .wrOtp _ | .wrOtpBcdLo _ | .wrOtpBcdHi _ => true
  | .rdId _ | .rdVersion _ | .rdCtrl _ | .rdStatus _ | .rdCmd _ | .rdKeyWord _ | .rdKeyByte _
  | .rdKeyLenLo _ | .rdKeyLenHi _ | .rdCounterHi _ | .rdCounterLo _
  | .rdDigest0 _ | .rdDigest1 _ | .rdDigest2 _ | .rdDigest3 _ | .rdDigest4 _
  | .rdOffset _ | .rdTrunc _ | .rdOtp _ | .rdOtpBcdLo _ | .rdOtpBcdHi _ => true

end Sys2Proof
end

