-- ==== Sys2Proof/Decode.lean ====
section
/-! DEFINITION. From a transaction word to an instruction and back (30_encoding.md R80 to R86).
The decoder is total on 43-bit words, as R85 says. `decode` and `encode` are written from the field table of R81, the
register map of R23 and the opcode map of R83, not from each other. `opcodeRows` is the table of matches and masks. -/

namespace Sys2Proof

/-! ## The fields of a transaction word (R81) -/

/-- `T[42]`: 1 = write. -/
def fieldW (t : TWord) : Bool := t.getLsbD 42

/-- `T[41:40]`. -/
def fieldSize (t : TWord) : Size := t.extractLsb' 40 2

/-- `T[39:32]`. -/
def fieldOff (t : TWord) : Off := t.extractLsb' 32 8

/-- `T[31:0]`. -/
def fieldData (t : TWord) : Word := t.extractLsb' 0 32

/-- The transaction word with the four fields of R81, W in the highest place. -/
def transactionWord (w : Bool) (size : Size) (off : Off) (data : Word) : TWord :=
  BitVec.ofBool w ++ size ++ off ++ data

/-! ## The register map (10_state.md R23) -/

/-- The offset of a register. -/
def Reg.off : Reg → Off
  | .id => 0x00
  | .version => 0x04
  | .ctrl => 0x08
  | .status => 0x0C
  | .cmd => 0x10
  | .keyWord => 0x14
  | .keyByte => 0x18
  | .keyLenLo => 0x1C
  | .keyLenHi => 0x20
  | .counterHi => 0x24
  | .counterLo => 0x28
  | .digest0 => 0x30
  | .digest1 => 0x34
  | .digest2 => 0x38
  | .digest3 => 0x3C
  | .digest4 => 0x40
  | .offset => 0x44
  | .trunc => 0x48
  | .otp => 0x4C
  | .otpBcdLo => 0x50
  | .otpBcdHi => 0x54

/-- The register an offset names, if it names one: 0x2C, 0x58 to 0xFC and the misaligned offsets name none. -/
def regAt (off : Off) : Option Reg :=
  match off.toNat with
  | 0x00 => some .id
  | 0x04 => some .version
  | 0x08 => some .ctrl
  | 0x0C => some .status
  | 0x10 => some .cmd
  | 0x14 => some .keyWord
  | 0x18 => some .keyByte
  | 0x1C => some .keyLenLo
  | 0x20 => some .keyLenHi
  | 0x24 => some .counterHi
  | 0x28 => some .counterLo
  | 0x30 => some .digest0
  | 0x34 => some .digest1
  | 0x38 => some .digest2
  | 0x3C => some .digest3
  | 0x40 => some .digest4
  | 0x44 => some .offset
  | 0x48 => some .trunc
  | 0x4C => some .otp
  | 0x50 => some .otpBcdLo
  | 0x54 => some .otpBcdHi
  | _ => none

/-! ## The decoder (R85) -/

/-- Case 2 of R85: a read selects the row of the register its offset names, or RD.RSVD. -/
def decodeRead (off : Off) (data : Word) : Instr :=
  match regAt off with
  | some .id => .rdId data
  | some .version => .rdVersion data
  | some .ctrl => .rdCtrl data
  | some .status => .rdStatus data
  | some .cmd => .rdCmd data
  | some .keyWord => .rdKeyWord data
  | some .keyByte => .rdKeyByte data
  | some .keyLenLo => .rdKeyLenLo data
  | some .keyLenHi => .rdKeyLenHi data
  | some .counterHi => .rdCounterHi data
  | some .counterLo => .rdCounterLo data
  | some .digest0 => .rdDigest0 data
  | some .digest1 => .rdDigest1 data
  | some .digest2 => .rdDigest2 data
  | some .digest3 => .rdDigest3 data
  | some .digest4 => .rdDigest4 data
  | some .offset => .rdOffset data
  | some .trunc => .rdTrunc data
  | some .otp => .rdOtp data
  | some .otpBcdLo => .rdOtpBcdLo data
  | some .otpBcdHi => .rdOtpBcdHi data
  | none => .rdRsvd off data

/-- Case 3 of R85: a write to CMD (opcode map R83; R82: DATA[31:4] must be 0). -/
def decodeCommand (data : Word) : Instr :=
  match data.toNat with
  | 0x0 => .cmdNop
  | 0x1 => .cmdKeyClear
  | 0x2 => .cmdKeyFinal
  | 0x3 => .cmdHotp
  | 0xF => .cmdSoftReset
  | _ => .cmdIllegal data

/-- Cases 3 to 5 of R85: a write selects the command, the row of the register its offset names, or WR.RSVD. -/
def decodeWrite (off : Off) (data : Word) : Instr :=
  match regAt off with
  | some .id => .wrId data
  | some .version => .wrVersion data
  | some .ctrl => .wrCtrl data
  | some .status => .wrStatus data
  | some .cmd => decodeCommand data
  | some .keyWord => .wrKeyWord data
  | some .keyByte => .wrKeyByte data
  | some .keyLenLo => .wrKeyLenLo data
  | some .keyLenHi => .wrKeyLenHi data
  | some .counterHi => .wrCounterHi data
  | some .counterLo => .wrCounterLo data
  | some .digest0 => .wrDigest0 data
  | some .digest1 => .wrDigest1 data
  | some .digest2 => .wrDigest2 data
  | some .digest3 => .wrDigest3 data
  | some .digest4 => .wrDigest4 data
  | some .offset => .wrOffset data
  | some .trunc => .wrTrunc data
  | some .otp => .wrOtp data
  | some .otpBcdLo => .wrOtpBcdLo data
  | some .otpBcdHi => .wrOtpBcdHi data
  | none => .wrRsvd off data

/-- R85. The first case that applies selects the instruction. Case 1 is taken apart into the table's five bus-error rows
in the table's order. -/
def decode (t : TWord) : Instr :=
  let w := fieldW t
  let off := fieldOff t
  let data := fieldData t
  match (fieldSize t).toNat with
  | 0 => .buserrSize0 w off data
  | 1 => .buserrSize1 w off data
  | 2 =>
    if off.getLsbD 0 then .buserrMisalignB0 w off data
    else if off.getLsbD 1 then .buserrMisalignB1 w off data
    else if w then decodeWrite off data
    else decodeRead off data
  | _ => .buserrSize3 w off data

/-- Why a number is no transaction word. -/
inductive DecodeError where
  /-- A bit above 42 is set: a transaction word has 43 bits (R80). -/
  | notATransactionWord
  deriving DecidableEq, Repr

/-- The decoder on any number: a 43-bit word decodes, anything else is rejected by name. -/
def decodeNat (n : Nat) : Except DecodeError Instr :=
  if n < 2 ^ 43 then .ok (decode (BitVec.ofNat 43 n)) else .error .notATransactionWord

/-- The instruction the decoder reads from an instruction whose bits are `w`, of which the table numbers `nbits`;
every bit above them is 0. A transaction word has no byte form (notes/assumptions/9.md), so its bits are taken as
R81 numbers them. -/
def decodeTableWord (nbits w : Nat) : Option Instr :=
  match decodeNat (w % 2 ^ nbits) with
  | .ok i => some i
  | .error _ => none

/-! ## The encoder (R81, R83) -/

/-- A 32-bit read of the window. -/
def readWord (off : Off) (data : Word) : TWord := transactionWord false 2 off data

/-- A 32-bit write of the window. -/
def writeWord (off : Off) (data : Word) : TWord := transactionWord true 2 off data

/-- The transaction word of a well-formed instruction. -/
def encode : Instr → TWord
  | .buserrSize0 w off data => transactionWord w 0 off data
  | .buserrSize1 w off data => transactionWord w 1 off data
  | .buserrSize3 w off data => transactionWord w 3 off data
  | .buserrMisalignB0 w off data => transactionWord w 2 off data
  | .buserrMisalignB1 w off data => transactionWord w 2 off data
  | .cmdNop => writeWord 0x10 0x0
  | .cmdKeyClear => writeWord 0x10 0x1
  | .cmdKeyFinal => writeWord 0x10 0x2
  | .cmdHotp => writeWord 0x10 0x3
  | .cmdSoftReset => writeWord 0x10 0xF
  | .cmdIllegal data => writeWord 0x10 data
  | .wrId data => writeWord 0x00 data
  | .wrVersion data => writeWord 0x04 data
  | .wrCtrl data => writeWord 0x08 data
  | .wrStatus data => writeWord 0x0C data
  | .wrKeyWord data => writeWord 0x14 data
  | .wrKeyByte data => writeWord 0x18 data
  | .wrKeyLenLo data => writeWord 0x1C data
  | .wrKeyLenHi data => writeWord 0x20 data
  | .wrCounterHi data => writeWord 0x24 data
  | .wrCounterLo data => writeWord 0x28 data
  | .wrDigest0 data => writeWord 0x30 data
  | .wrDigest1 data => writeWord 0x34 data
  | .wrDigest2 data => writeWord 0x38 data
  | .wrDigest3 data => writeWord 0x3C data
  | .wrDigest4 data => writeWord 0x40 data
  | .wrOffset data => writeWord 0x44 data
  | .wrTrunc data => writeWord 0x48 data
  | .wrOtp data => writeWord 0x4C data
  | .wrOtpBcdLo data => writeWord 0x50 data
  | .wrOtpBcdHi data => writeWord 0x54 data
  | .rdId data => readWord 0x00 data
  | .rdVersion data => readWord 0x04 data
  | .rdCtrl data => readWord 0x08 data
  | .rdStatus data => readWord 0x0C data
  | .rdCmd data => readWord 0x10 data
  | .rdKeyWord data => readWord 0x14 data
  | .rdKeyByte data => readWord 0x18 data
  | .rdKeyLenLo data => readWord 0x1C data
  | .rdKeyLenHi data => readWord 0x20 data
  | .rdCounterHi data => readWord 0x24 data
  | .rdCounterLo data => readWord 0x28 data
  | .rdDigest0 data => readWord 0x30 data
  | .rdDigest1 data => readWord 0x34 data
  | .rdDigest2 data => readWord 0x38 data
  | .rdDigest3 data => readWord 0x3C data
  | .rdDigest4 data => readWord 0x40 data
  | .rdOffset data => readWord 0x44 data
  | .rdTrunc data => readWord 0x48 data
  | .rdOtp data => readWord 0x4C data
  | .rdOtpBcdLo data => readWord 0x50 data
  | .rdOtpBcdHi data => readWord 0x54 data
  | .rdRsvd off data => readWord off data
  | .wrRsvd off data => writeWord off data

/-! ## The opcode table (R85: rows are matched in its order, the first that matches selects) -/

/-- A row of the table: a word `T` matches it when `T and mask = bits`. The match and mask are the table's own numbers. -/
structure OpcodeRow where
  mnemonic : String
  bits : TWord
  mask : TWord
  deriving DecidableEq, Repr

/-- Whether a transaction word matches a row. -/
def OpcodeRow.matchesWord (r : OpcodeRow) (t : TWord) : Bool := t &&& r.mask == r.bits

/-- The bus-error rows. -/
def busErrorRows : List OpcodeRow :=
  [ ⟨"BUSERR.SIZE0", 0x00000000000, 0x30000000000⟩,
    ⟨"BUSERR.SIZE1", 0x10000000000, 0x30000000000⟩,
    ⟨"BUSERR.SIZE3", 0x30000000000, 0x30000000000⟩,
    ⟨"BUSERR.MISALIGN_B0", 0x00100000000, 0x00100000000⟩,
    ⟨"BUSERR.MISALIGN_B1", 0x00200000000, 0x00200000000⟩ ]

/-- The command rows. -/
def commandRows : List OpcodeRow :=
  [ ⟨"CMD.NOP", 0x61000000000, 0x7FFFFFFFFFF⟩,
    ⟨"CMD.KEY_CLEAR", 0x61000000001, 0x7FFFFFFFFFF⟩,
    ⟨"CMD.KEY_FINAL", 0x61000000002, 0x7FFFFFFFFFF⟩,
    ⟨"CMD.HOTP", 0x61000000003, 0x7FFFFFFFFFF⟩,
    ⟨"CMD.SOFT_RESET", 0x6100000000F, 0x7FFFFFFFFFF⟩,
    ⟨"CMD.ILLEGAL", 0x61000000000, 0x7FF00000000⟩ ]

/-- The write rows with exact offsets. -/
def writeRows : List OpcodeRow :=
  [ ⟨"WR.ID", 0x60000000000, 0x7FF00000000⟩,
    ⟨"WR.VERSION", 0x60400000000, 0x7FF00000000⟩,
    ⟨"WR.CTRL", 0x60800000000, 0x7FF00000000⟩,
    ⟨"WR.STATUS", 0x60C00000000, 0x7FF00000000⟩,
    ⟨"WR.KEY_WORD", 0x61400000000, 0x7FF00000000⟩,
    ⟨"WR.KEY_BYTE", 0x61800000000, 0x7FF00000000⟩,
    ⟨"WR.KEY_LEN_LO", 0x61C00000000, 0x7FF00000000⟩,
    ⟨"WR.KEY_LEN_HI", 0x62000000000, 0x7FF00000000⟩,
    ⟨"WR.COUNTER_HI", 0x62400000000, 0x7FF00000000⟩,
    ⟨"WR.COUNTER_LO", 0x62800000000, 0x7FF00000000⟩,
    ⟨"WR.DIGEST0", 0x63000000000, 0x7FF00000000⟩,
    ⟨"WR.DIGEST1", 0x63400000000, 0x7FF00000000⟩,
    ⟨"WR.DIGEST2", 0x63800000000, 0x7FF00000000⟩,
    ⟨"WR.DIGEST3", 0x63C00000000, 0x7FF00000000⟩,
    ⟨"WR.DIGEST4", 0x64000000000, 0x7FF00000000⟩,
    ⟨"WR.OFFSET", 0x64400000000, 0x7FF00000000⟩,
    ⟨"WR.TRUNC", 0x64800000000, 0x7FF00000000⟩,
    ⟨"WR.OTP", 0x64C00000000, 0x7FF00000000⟩,
    ⟨"WR.OTP_BCD_LO", 0x65000000000, 0x7FF00000000⟩,
    ⟨"WR.OTP_BCD_HI", 0x65400000000, 0x7FF00000000⟩ ]

/-- The read rows with exact offsets. -/
def readRows : List OpcodeRow :=
  [ ⟨"RD.ID", 0x20000000000, 0x7FF00000000⟩,
    ⟨"RD.VERSION", 0x20400000000, 0x7FF00000000⟩,
    ⟨"RD.CTRL", 0x20800000000, 0x7FF00000000⟩,
    ⟨"RD.STATUS", 0x20C00000000, 0x7FF00000000⟩,
    ⟨"RD.CMD", 0x21000000000, 0x7FF00000000⟩,
    ⟨"RD.KEY_WORD", 0x21400000000, 0x7FF00000000⟩,
    ⟨"RD.KEY_BYTE", 0x21800000000, 0x7FF00000000⟩,
    ⟨"RD.KEY_LEN_LO", 0x21C00000000, 0x7FF00000000⟩,
    ⟨"RD.KEY_LEN_HI", 0x22000000000, 0x7FF00000000⟩,
    ⟨"RD.COUNTER_HI", 0x22400000000, 0x7FF00000000⟩,
    ⟨"RD.COUNTER_LO", 0x22800000000, 0x7FF00000000⟩,
    ⟨"RD.DIGEST0", 0x23000000000, 0x7FF00000000⟩,
    ⟨"RD.DIGEST1", 0x23400000000, 0x7FF00000000⟩,
    ⟨"RD.DIGEST2", 0x23800000000, 0x7FF00000000⟩,
    ⟨"RD.DIGEST3", 0x23C00000000, 0x7FF00000000⟩,
    ⟨"RD.DIGEST4", 0x24000000000, 0x7FF00000000⟩,
    ⟨"RD.OFFSET", 0x24400000000, 0x7FF00000000⟩,
    ⟨"RD.TRUNC", 0x24800000000, 0x7FF00000000⟩,
    ⟨"RD.OTP", 0x24C00000000, 0x7FF00000000⟩,
    ⟨"RD.OTP_BCD_LO", 0x25000000000, 0x7FF00000000⟩,
    ⟨"RD.OTP_BCD_HI", 0x25400000000, 0x7FF00000000⟩ ]

/-- The reserved-offset rows. -/
def reservedRows : List OpcodeRow :=
  [ ⟨"RD.RSVD", 0x20000000000, 0x70300000000⟩,
    ⟨"WR.RSVD", 0x60000000000, 0x70300000000⟩ ]

/-- The whole table in the order of R85. -/
def opcodeRows : List OpcodeRow := busErrorRows ++ commandRows ++ writeRows ++ readRows ++ reservedRows

/-- The row a transaction word selects: the first that matches. -/
def opcodeRowOf (t : TWord) : Option OpcodeRow := opcodeRows.find? (·.matchesWord t)

end Sys2Proof
end

