-- ==== Sys2Proof/Config.lean ====
section
/-! DEFINITION. The fixed parameters of 00_scope.md R5, the constants of the register map, and the one open parameter of R6 a
step depends on, BASE. LAT_JOB and LAT_ABSORB are times and the model has none (R351, R66); BUS_BINDING carries whole
transactions (R60), which is the level of this model. -/

namespace Sys2Proof.Config

/-- KEY_LEN_MAX in bytes (R5; 40_key.md R111). -/
def keyLenMax : Nat := 2 ^ 61 - 1

/-- The ID register (10_state.md R24). -/
def idValue : Word := 0x484F5450

/-- The VERSION register: MAJOR 0x0001, MINOR 0x0000 (10_state.md R25). -/
def versionValue : Word := 0x00010000

/-- WINDOW_BYTES (R5). -/
def windowBytes : Nat := 256

/-- The 256-byte page the platform puts the window in (R6: BASE is the platform's choice). No value is known of it.
notes/assumptions/8.md -/
opaque basePage : Nat

/-- BASE, the bus address of offset 0: 256-byte aligned, and otherwise free (R6). -/
def base : Nat := windowBytes * basePage

end Sys2Proof.Config
end

