-- ==== Sys2Proof/Machine/State.lean ====
section
/-! DEFINITION. The machine's state: the record of 10_state.md R20, whole; the ports of 20_memory.md R60 a step reads or
drives; and the inputs still to come. All of it is plain data. -/

namespace Sys2Proof.Machine

/-- The key state, by the three names of 10_state.md R43. The reserved value 3 is "never produced" and has no
constructor (notes/assumptions/10.md). -/
inductive KState where
  | empty | loading | ready
  deriving DecidableEq, Repr

/-- The pending job (10_state.md R20, R42). -/
inductive Job where
  | none | keyClear | keyFinal | hotp
  deriving DecidableEq, Repr

/-- The six error causes of 60_exceptions.md R301. -/
inductive ErrorCode where
  | badCmd | busy | keyState | noKey | digits | keyLen
  deriving DecidableEq, Repr

/-- The record of 10_state.md R20: "The engine's state is exactly this record." -/
structure Engine where
  /-- CTRL[3:0]. -/
  digits : BitVec 4
  /-- CTRL[8]. -/
  doneIe : Bool
  /-- CTRL[9]. -/
  errIe : Bool
  /-- STATUS[0]. -/
  busy : Bool
  /-- STATUS[2:1]. -/
  kstate : KState
  /-- STATUS[4]. -/
  done : Bool
  /-- STATUS[5]. -/
  err : Bool
  /-- STATUS[11:8]. -/
  errcode : BitVec 4
  /-- KEY_LEN_HI:KEY_LEN_LO. -/
  klen : DWord
  /-- COUNTER_HI:COUNTER_LO. -/
  counter : DWord
  /-- DIGEST0..DIGEST4. -/
  digest : Digest
  /-- OFFSET[3:0]. -/
  offset : BitVec 4
  /-- TRUNC[30:0]. -/
  trunc : BitVec 31
  /-- OTP. -/
  otp : Word
  /-- BCD[0..8]: OTP_BCD_LO, OTP_BCD_HI[3:0]. -/
  bcd : Vector (BitVec 4) 9
  /-- Hidden: the key block buffer (R39). -/
  kbuf : Block
  /-- Hidden: the SHA-1 chaining value of the key stream (R40). -/
  kh : Hash
  /-- Hidden: the HMAC key block (R41). -/
  k0 : Block
  /-- Hidden: the pending job (R42). -/
  job : Job
  /-- Hidden: COUNTER as latched by the pending HOTP (R42). -/
  jobCounter : DWord
  /-- Hidden: DIGITS as latched by the pending HOTP (R42). -/
  jobDigits : BitVec 4
  deriving DecidableEq, Repr

/-- The response of a transaction on the bus port (20_memory.md R60, R64). -/
inductive Response where
  /-- OKAY, to a write. -/
  | okay
  /-- OKAY with RDATA, to a read. -/
  | data (v : Word)
  /-- BUSERROR: the outcome `BusError(offset, W, SIZE)` of R64, which carries no data. -/
  | busError (off : Off) (w : Bool) (size : Size)
  deriving DecidableEq, Repr

/-- What the outside delivers to the engine between two steps (00_scope.md R11; 20_memory.md R60, R74). -/
inductive Input where
  /-- A bus transaction in the window, as its transaction word (R80). -/
  | transaction (t : TWord)
  /-- A bus transaction at a bus address, as the port carries it (R60). -/
  | access (w : Bool) (size : Size) (addr : Nat) (wdata : Word)
  /-- The engine's turn: the choice that an engine step falls here (R11, R312). -/
  | engineTurn
  /-- RST_N falls (70_reset_and_hazards.md R340). -/
  | resetAssert
  /-- RST_N rises (R340). -/
  | resetRelease
  deriving DecidableEq, Repr

/-- The whole machine. -/
structure State where
  /-- The record of R20. -/
  eng : Engine
  /-- The level of the RST_N input; `false` holds the engine in reset (R340). -/
  rstN : Bool
  /-- The response of the last transaction, absent before the first (notes/assumptions/5.md). -/
  resp : Option Response
  /-- The model's own field: the inputs still to come, in delivery order (notes/assumptions/1.md). -/
  inputs : List Input
  deriving DecidableEq, Repr

/-- Where the machine stops with a fault. No instruction of the opcode table ends in one. -/
inductive Fault where
  /-- Raised by the step for an access whose bus address lies outside the window: "the platform routes to the engine only
  addresses in that range" (20_memory.md R61). Safe: the model stops where the spec gives the engine no transaction. -/
  | notRouted (addr : Nat)
  deriving DecidableEq, Repr

/-- Where the model has no run. -/
inductive Refusal where
  /-- Raised by an arm of `exec` whose instruction has no meaning yet. No arm does. Safe. -/
  | notModelled (mnemonic : String)
  /-- Raised by the step for a transaction while RST_N = 0: "A transaction during reset is outside this spec"
  (70_reset_and_hazards.md R343; 93_implementation_defined.md I6 `refuse`). Safe: no run passes it. -/
  | transactionDuringReset
  deriving DecidableEq, Repr

/-- Every element of R20 at its reset value (R20, R341). -/
def Engine.reset : Engine where
  digits := 6
  doneIe := false
  errIe := false
  busy := false
  kstate := .empty
  done := false
  err := false
  errcode := 0
  klen := 0
  counter := 0
  digest := Vector.replicate 20 0
  offset := 0
  trunc := 0
  otp := 0
  bcd := Vector.replicate 9 0
  kbuf := Vector.replicate 64 0
  kh := Vector.replicate 5 0
  k0 := Vector.replicate 64 0
  job := .none
  jobCounter := 0
  jobDigits := 0

/-- The machine right after reset (R341, R344): the record at its reset values, RST_N released, no response yet and no
input placed. -/
def State.reset : State where
  eng := Engine.reset
  rstN := true
  resp := none
  inputs := []

end Sys2Proof.Machine
end

