-- ==== Sys2Proof/Machine/Flags.lean ====
section
/-! DEFINITION. The flags of STATUS and the interrupt level (10_state.md R27, R42 to R44; 60_exceptions.md R301,
R313 to R315). -/

namespace Sys2Proof.Machine

/-- A flag as a word with the flag in bit 0. -/
def flagWord (b : Bool) : Word := (BitVec.ofBool b).setWidth 32

/-- The encoding of KSTATE (R43). -/
def KState.bits : KState → BitVec 2
  | .empty => 0
  | .loading => 1
  | .ready => 2

/-- The code an error cause shows in STATUS.ERRCODE (R301). -/
def ErrorCode.bits : ErrorCode → BitVec 4
  | .badCmd => 1
  | .busy => 2
  | .keyState => 3
  | .noKey => 4
  | .digits => 5
  | .keyLen => 6

/-- The STATUS register: `zext_32(ERRCODE << 8 or ERR << 5 or DONE << 4 or KSTATE << 1 or BUSY)` (43_register_access.md
R225). -/
def Engine.statusWord (e : Engine) : Word :=
  (e.errcode.setWidth 32 <<< 8) ||| (flagWord e.err <<< 5) ||| (flagWord e.done <<< 4)
    ||| (e.kstate.bits.setWidth 32 <<< 1) ||| flagWord e.busy

/-- The CTRL register: `zext_32(ERR_IE << 9 or DONE_IE << 8 or DIGITS)` (43_register_access.md R223). -/
def Engine.ctrlWord (e : Engine) : Word :=
  (flagWord e.errIe <<< 9) ||| (flagWord e.doneIe <<< 8) ||| e.digits.setWidth 32

/-- The IRQ output, a level computed from the state: `(DONE and DONE_IE) or (ERR and ERR_IE)` (R44, R315). -/
def Engine.irq (e : Engine) : Bool := (e.done && e.doneIe) || (e.err && e.errIe)

/-- The IRQ line of the machine. -/
def State.irq (s : State) : Bool := s.eng.irq

/-- A command that is accepted sets JOB to its job kind and BUSY to 1 (R42). -/
def Engine.startJob (j : Job) (e : Engine) : Engine := { e with job := j, busy := true }

/-- The common ending of a job: JOB <- NONE, BUSY <- 0, DONE <- 1 (R42). -/
def Engine.finishJob (e : Engine) : Engine := { e with job := .none, busy := false, done := true }

end Sys2Proof.Machine
end

