-- ==== Sys2Proof/Machine/Bytes.lean ====
section
/-! DEFINITION. Byte sequences and words (00_scope.md R8, R9). Everything is big-endian (20_memory.md R68 to R70). -/

namespace Sys2Proof.Machine

/-- `be32(b0, b1, b2, b3)` (R8). -/
def be32 (b0 b1 b2 b3 : Byte) : Word := b0 ++ b1 ++ b2 ++ b3

/-- Byte `j` of `bytes_be32(w)`: byte 0 is `w[31:24]` (R8). -/
def byteOfWord (w : Word) (j : Nat) : Byte := w.extractLsb' (24 - 8 * j) 8

/-- `bytes_be32(w)` (R8). -/
def bytesBE32 (w : Word) : List Byte := [byteOfWord w 0, byteOfWord w 1, byteOfWord w 2, byteOfWord w 3]

/-- `be64(v)`: the 8 bytes of `v`, the most significant first (R8). -/
def be64 (v : DWord) : List Byte := bytesBE32 (v.extractLsb' 32 32) ++ bytesBE32 (v.extractLsb' 0 32)

/-- `zeros(n)` (R8). -/
def zeros (n : Nat) : List Byte := List.replicate n 0

/-- `s || zeros(64 - len(s))` for `len(s) <= 64`, as a block (R8). -/
def toBlock (s : List Byte) : Block := Vector.ofFn fun i => s.getD i 0

/-- `s xor c`: the constant XORs every byte (R8). -/
def xorBlock (s : Block) (c : Byte) : Block := s.map (· ^^^ c)

/-- The five words of a hash as 20 big-endian bytes (41_sha1_hmac.md R140, R147). -/
def hashBytes (h : Hash) : Digest := Vector.ofFn fun i => byteOfWord (h[i.val / 4]'(by omega)) (i.val % 4)

/-- `ROTL^n(x)` for `n < 32` (R9). -/
def rotl (n : Nat) (x : Word) : Word := (x <<< n) ||| (x >>> (32 - n))

end Sys2Proof.Machine
end

