-- ==== Sys2Proof/Machine/Operands.lean ====
section
/-! DEFINITION. Every operand form of 30_encoding.md R84. -/

namespace Sys2Proof.Machine

/-- The key bytes of a KEY_WORD write: DATA[31:24] first (R84; 40_key.md R105). -/
def operandKeyWord (data : Word) : List Byte := bytesBE32 data

/-- The key byte of a KEY_BYTE write: DATA[7:0]; DATA[31:8] is ignored (R84; 40_key.md R106). -/
def operandKeyByte (data : Word) : List Byte := [data.extractLsb' 0 8]

/-- CTRL.DIGITS of a CTRL write: DATA[3:0] (R84; 10_state.md R26). -/
def operandDigits (data : Word) : BitVec 4 := data.extractLsb' 0 4

/-- CTRL.DONE_IE of a CTRL write: DATA[8] (R84). -/
def operandDoneIe (data : Word) : Bool := data.getLsbD 8

/-- CTRL.ERR_IE of a CTRL write: DATA[9] (R84). -/
def operandErrIe (data : Word) : Bool := data.getLsbD 9

/-- The W1C mask of a STATUS write: DATA[4] clears DONE (R84). -/
def operandClearDone (data : Word) : Bool := data.getLsbD 4

/-- The W1C mask of a STATUS write: DATA[5] clears ERR (R84). -/
def operandClearErr (data : Word) : Bool := data.getLsbD 5

/-- COUNTER[63:32], the COUNTER_HI half (10_state.md R32). -/
def highHalf (v : DWord) : Word := v.extractLsb' 32 32

/-- COUNTER[31:0], the COUNTER_LO half (R32). -/
def lowHalf (v : DWord) : Word := v.extractLsb' 0 32

/-- `HI * 2^32 + LO` (R84). -/
def joinHalves (hi lo : Word) : DWord := hi ++ lo

/-- Whether a digit count is one of 1..9 (10_state.md R26; 42_hotp.md R180). -/
def legalDigits (d : BitVec 4) : Bool := 1 ≤ d.toNat && d.toNat ≤ 9

end Sys2Proof.Machine
end

