-- ==== Sys2Proof/Machine/Ops.lean ====
section
/-! DEFINITION. The operations the meanings share: the outcome of a read, of a write and of a bus error; recording an
error and the return from it; the words of the registers; the bus route. -/

namespace Sys2Proof.Machine

/-- What a step or a meaning answers. -/
abbrev Result := Host.Outcome State Fault Refusal

/-! ## The outcomes of a transaction (20_memory.md R60, R64, R67) -/

/-- The response of the transaction that is being run. -/
def State.respond (r : Response) (s : State) : State := { s with resp := some r }

/-- A read returns a value and changes no state of the record (R67; 43_register_access.md R220). -/
def readReturn (v : Word) (s : State) : Result := .next (s.respond (.data v))

/-- A write leaves the record `e` and gets OKAY, a refused one too (60_exceptions.md R302). -/
def writeReturn (e : Engine) (s : State) : Result := .next ({ s with eng := e }.respond .okay)

/-- A bus error: no element of R20 changes, no error bit is set, and the outcome is `BusError(offset, W, SIZE)` with no
data (R64, R309). The engine goes on (notes/assumptions/4.md). -/
def busErrorReturn (off : Off) (w : Bool) (size : Size) (s : State) : Result :=
  .next (s.respond (.busError off w size))

/-! ## Errors: recording one, and the return (60_exceptions.md R302, R317) -/

/-- `raise Error(code)` (R302): the first error since ERR was clear is recorded, a later one is not. -/
def Engine.raiseError (code : ErrorCode) (e : Engine) : Engine :=
  if e.err then e else { e with err := true, errcode := code.bits }

/-- W1C of ERR: ERRCODE is cleared with it (R314; 43_register_access.md R226). -/
def Engine.clearErr (e : Engine) : Engine := { e with err := false, errcode := 0 }

/-- W1C of DONE (R313; 43_register_access.md R226). -/
def Engine.clearDone (e : Engine) : Engine := { e with done := false }

/-! ## The words the result registers read (10_state.md R33, R37) -/

/-- DIGESTi: digest byte 4i is in bits [31:24] (R33). -/
def Engine.digestWord (e : Engine) (i : Fin 5) : Word :=
  be32 e.digest[4 * i.val] e.digest[4 * i.val + 1] e.digest[4 * i.val + 2] e.digest[4 * i.val + 3]

/-- OTP_BCD_LO: `BCD[7] << 28 or ... or BCD[0]` (R37; 43_register_access.md R247). -/
def Engine.bcdLoWord (e : Engine) : Word :=
  (e.bcd[7].setWidth 32 <<< 28) ||| (e.bcd[6].setWidth 32 <<< 24) ||| (e.bcd[5].setWidth 32 <<< 20)
    ||| (e.bcd[4].setWidth 32 <<< 16) ||| (e.bcd[3].setWidth 32 <<< 12) ||| (e.bcd[2].setWidth 32 <<< 8)
    ||| (e.bcd[1].setWidth 32 <<< 4) ||| e.bcd[0].setWidth 32

/-- OTP_BCD_HI: `zext_32(BCD[8])` (R37; 43_register_access.md R248). -/
def Engine.bcdHiWord (e : Engine) : Word := e.bcd[8].setWidth 32

/-- `ReadReg(off)` for an offset that names a register (43_register_access.md R220, R221 to R248): CMD, KEY_WORD and
KEY_BYTE have no storage and read 0. -/
def Engine.readReg (e : Engine) : Reg → Word
  | .id => Config.idValue
  | .version => Config.versionValue
  | .ctrl => e.ctrlWord
  | .status => e.statusWord
  | .cmd => 0
  | .keyWord => 0
  | .keyByte => 0
  | .keyLenLo => lowHalf e.klen
  | .keyLenHi => highHalf e.klen
  | .counterHi => highHalf e.counter
  | .counterLo => lowHalf e.counter
  | .digest0 => e.digestWord 0
  | .digest1 => e.digestWord 1
  | .digest2 => e.digestWord 2
  | .digest3 => e.digestWord 3
  | .digest4 => e.digestWord 4
  | .offset => e.offset.setWidth 32
  | .trunc => e.trunc.setWidth 32
  | .otp => e.otp
  | .otpBcdLo => e.bcdLoWord
  | .otpBcdHi => e.bcdHiWord

/-! ## The bus route (20_memory.md R60, R61, R72) -/

/-- `offset = ADDR - BASE`, for an address in `BASE .. BASE+0xFF` (R61). -/
def windowOffset (addr : Nat) : Option Off :=
  if Config.base ≤ addr ∧ addr < Config.base + Config.windowBytes then
    some (BitVec.ofNat 8 (addr - Config.base))
  else none

/-- The transaction word of an access the platform routes to the engine: WDATA is used only by writes (R60), and a read's
word has DATA = 0 (30_encoding.md R81). -/
def accessWord (w : Bool) (size : Size) (addr : Nat) (wdata : Word) : Option TWord :=
  (windowOffset addr).map fun off => transactionWord w size off (if w then wdata else 0)

end Sys2Proof.Machine
end

