-- ==== Sys2Proof/Machine/BusError.lean ====
section
/-! DEFINITION. The bus-error family (20_memory.md R62 to R64; 60_exceptions.md R309). -/

namespace Sys2Proof.Machine

/-- BUSERR.SIZE0: an 8-bit access (R62, R64). -/
def execBuserrSize0 (w : Bool) (off : Off) (s : State) : Result := busErrorReturn off w 0 s

/-- BUSERR.SIZE1: a 16-bit access (R62, R64). -/
def execBuserrSize1 (w : Bool) (off : Off) (s : State) : Result := busErrorReturn off w 1 s

/-- BUSERR.SIZE3: the reserved SIZE (R62, R64). -/
def execBuserrSize3 (w : Bool) (off : Off) (s : State) : Result := busErrorReturn off w 3 s

/-- BUSERR.MISALIGN_B0: a 32-bit access with OFF[0] = 1 (R63, R64). -/
def execBuserrMisalignB0 (w : Bool) (off : Off) (s : State) : Result := busErrorReturn off w 2 s

/-- BUSERR.MISALIGN_B1: a 32-bit access with OFF[1] = 1 and OFF[0] = 0 (R63, R64). -/
def execBuserrMisalignB1 (w : Bool) (off : Off) (s : State) : Result := busErrorReturn off w 2 s

end Sys2Proof.Machine
end

