-- ==== Sys2Proof/Machine/Command.lean ====
section
/-! DEFINITION. The immediate commands and the illegal command word (43_register_access.md R228 to R230). -/

namespace Sys2Proof.Machine

/-- CMD.NOP (R228): no effect when idle, ERR_BUSY when busy. -/
def execCmdNop (s : State) : Result :=
  writeReturn (if s.eng.busy then s.eng.raiseError .busy else s.eng) s

/-- CMD.SOFT_RESET (R229): every element of R20 to its reset value, when busy too (70_reset_and_hazards.md R341, R342). -/
def execCmdSoftReset (s : State) : Result := writeReturn Engine.reset s

/-- CMD.ILLEGAL (R230): the busy check comes first (60_exceptions.md R311). -/
def execCmdIllegal (s : State) : Result :=
  writeReturn (if s.eng.busy then s.eng.raiseError .busy else s.eng.raiseError .badCmd) s

end Sys2Proof.Machine
end

