-- ==== Sys2Proof/Machine/Sha1.lean ====
section
/-! DEFINITION. SHA-1 (41_sha1_hmac.md R140 to R148). Pure functions: they read and write no state. -/

namespace Sys2Proof.Machine

/-- `H(0)` (R141). -/
def sha1Init : Hash := #v[0x67452301, 0xEFCDAB89, 0x98BADCFE, 0x10325476, 0xC3D2E1F0]

/-- `f_t(b, c, d)` (R142): Ch, Parity, Maj, Parity. -/
def roundFunction (t : Nat) (b c d : Word) : Word :=
  if t < 20 then (b &&& c) ^^^ (~~~b &&& d)
  else if t < 40 then b ^^^ c ^^^ d
  else if t < 60 then (b &&& c) ^^^ (b &&& d) ^^^ (c &&& d)
  else b ^^^ c ^^^ d

/-- `K_t` (R143). -/
def roundConstant (t : Nat) : Word :=
  if t < 20 then 0x5A827999
  else if t < 40 then 0x6ED9EBA1
  else if t < 60 then 0x8F1BBCDC
  else 0xCA62C1D6

/-- `W_0` to `W_15` (R144, R140): the block as sixteen big-endian words. -/
def blockWords (b : Block) : List Word :=
  List.ofFn fun t : Fin 16 => be32 b[4 * t.val] b[4 * t.val + 1] b[4 * t.val + 2] b[4 * t.val + 3]

/-- `n` more words of the schedule (R144), on a list that holds the newest word first. -/
def extendSchedule : Nat → List Word → List Word
  | 0, ws => ws
  | n + 1, ws =>
    extendSchedule n (rotl 1 (ws.getD 2 0 ^^^ ws.getD 7 0 ^^^ ws.getD 13 0 ^^^ ws.getD 15 0) :: ws)

/-- `W_0` to `W_79` (R144). -/
def schedule (b : Block) : List Word := (extendSchedule 64 (blockWords b).reverse).reverse

/-- One round of R145 on the working words `a, b, c, d, e`. -/
def sha1Round (v : Hash) (t : Nat) (w : Word) : Hash :=
  #v[rotl 5 v[0] + roundFunction t v[1] v[2] v[3] + v[4] + roundConstant t + w, v[0], rotl 30 v[1], v[2], v[3]]

/-- The rounds of R145 from round `t` on, one for each word of the schedule that is left. -/
def sha1Rounds : Nat → List Word → Hash → Hash
  | _, [], v => v
  | t, w :: ws, v => sha1Rounds (t + 1) ws (sha1Round v t w)

/-- `Compress(H, B)` (R145). -/
def compress (h : Hash) (b : Block) : Hash :=
  let v := sha1Rounds 0 (schedule b) h
  #v[h[0] + v[0], h[1] + v[1], h[2] + v[2], h[3] + v[3], h[4] + v[4]]

/-- The zero bytes after 0x80 in the padding of an `n`-byte message: `(55 - n) mod 64`, non-negative (R146, R9). -/
def padZeros (n : Nat) : Nat := ((55 - (n : Int)) % 64).toNat

/-- What R146 appends to the bytes of the last, unfinished block of an `n`-byte message. -/
def padTail (n : Nat) : List Byte := [0x80] ++ zeros (padZeros n) ++ be64 (BitVec.ofNat 64 (8 * n))

/-- `Pad(M)` (R146). -/
def pad (m : List Byte) : List Byte := m ++ padTail m.length

/-- The first `n` 64-byte blocks of a message, in order. -/
def blocksOf : Nat → List Byte → List Block
  | 0, _ => []
  | n + 1, m => toBlock (m.take 64) :: blocksOf n (m.drop 64)

/-- `H <- Compress(H, B)` for each whole 64-byte block B of `m`, in order (R147; 40_key.md R108). -/
def absorb (h : Hash) (m : List Byte) : Hash := (blocksOf (m.length / 64) m).foldl compress h

/-- `SHA1(M)` (R147). -/
def sha1 (m : List Byte) : Digest := hashBytes (absorb sha1Init (pad m))

end Sys2Proof.Machine
end

