-- ==== Sys2Proof/Machine/Hmac.lean ====
section
/-! DEFINITION. HMAC-SHA1 (41_sha1_hmac.md R149 to R154). -/

namespace Sys2Proof.Machine

/-- `K0_of(K)` (R150). -/
def k0Of (key : List Byte) : Block :=
  if key.length ≤ 64 then toBlock key else toBlock (sha1 key).toList

/-- `ipad` (R151). -/
def ipad : Byte := 0x36

/-- `opad` (R151). -/
def opad : Byte := 0x5C

/-- The inner hash `SHA1((K0 xor ipad) || M)` (R152). -/
def innerHash (k0 : Block) (m : List Byte) : Digest := sha1 ((xorBlock k0 ipad).toList ++ m)

/-- The MAC from a key block already formed: `SHA1((K0 xor opad) || SHA1((K0 xor ipad) || M))` (R152, R181). -/
def hmacOfBlock (k0 : Block) (m : List Byte) : Digest :=
  sha1 ((xorBlock k0 opad).toList ++ (innerHash k0 m).toList)

/-- `HMAC_SHA1(K, M)` (R152). -/
def hmacSha1 (key m : List Byte) : Digest := hmacOfBlock (k0Of key) m

/-- The four compressions of one HOTP job (R154): the two blocks of the inner hash, then the two of the outer. -/
def hotpCompressions (k0 : Block) (c : DWord) : Digest :=
  let hi := compress sha1Init (xorBlock k0 ipad)
  let hi := compress hi (toBlock (be64 c ++ [0x80] ++ zeros 47 ++ be64 576))
  let inner := hashBytes hi
  let ho := compress sha1Init (xorBlock k0 opad)
  let ho := compress ho (toBlock (inner.toList ++ [0x80] ++ zeros 35 ++ be64 672))
  hashBytes ho

end Sys2Proof.Machine
end

