-- ==== Sys2Proof/Machine/Hotp.lean ====
section
/-! DEFINITION. The HOTP command: dynamic truncation, decimal reduction, BCD (42_hotp.md R180 to R188). -/

namespace Sys2Proof.Machine

/-- `offset = digest[19] & 0x0F` (R182). -/
def truncOffset (dg : Digest) : BitVec 4 := (dg[19] &&& 0x0F).setWidth 4

/-- The four digest bytes from `off` on, big-endian (R183). The last index read is at most 18. -/
def truncWindow (dg : Digest) (off : BitVec 4) : Word :=
  have h := off.isLt
  be32 (dg[off.toNat]'(by omega)) (dg[off.toNat + 1]'(by omega)) (dg[off.toNat + 2]'(by omega))
    (dg[off.toNat + 3]'(by omega))

/-- The mask `& 0x7FFFFFFF`, as a 31-bit value (R183). -/
def maskWindow (raw : Word) : BitVec 31 := (raw &&& 0x7FFFFFFF).setWidth 31

/-- The masked 31-bit value of a digest (R182, R183). -/
def truncate (dg : Digest) : BitVec 31 := maskWindow (truncWindow dg (truncOffset dg))

/-- `password_value = masked_value % 10^digits` (R184). -/
def reduceDigits (tr : BitVec 31) (d : BitVec 4) : Word := BitVec.ofNat 32 (tr.toNat % 10 ^ d.toNat)

/-- `BCD[i] = (OTP div 10^i) mod 10` for i = 0..8 (R185). -/
def bcdOf (v : Word) : Vector (BitVec 4) 9 := Vector.ofFn fun i => BitVec.ofNat 4 (v.toNat / 10 ^ i.val % 10)

/-- The five result elements from a digest and a digit count, written together (R181). -/
def Engine.withResults (dg : Digest) (d : BitVec 4) (e : Engine) : Engine :=
  let v := reduceDigits (truncate dg) d
  { e with digest := dg, offset := truncOffset dg, trunc := truncate dg, otp := v, bcd := bcdOf v }

/-- HotpComplete (R181). -/
def Engine.hotpComplete (e : Engine) : Engine :=
  e.withResults (hmacOfBlock e.k0 (be64 e.jobCounter)) e.jobDigits

/-- CMD.HOTP at issue (R180): the checks in order, then COUNTER and DIGITS are latched and the job starts. -/
def execCmdHotp (s : State) : Result :=
  writeReturn
    (if s.eng.busy then s.eng.raiseError .busy
     else if s.eng.kstate ≠ .ready then s.eng.raiseError .noKey
     else if !legalDigits s.eng.digits then s.eng.raiseError .digits
     else { s.eng with jobCounter := s.eng.counter, jobDigits := s.eng.digits }.startJob .hotp) s

end Sys2Proof.Machine
end

