-- ==== Sys2Proof/Machine/Key.lean ====
section
/-! DEFINITION. Key loading (40_key.md R100 to R112). -/

namespace Sys2Proof.Machine

/-! ## The append primitive (R102) -/

/-- `AppendByte(b)` (R102). A full block that was compressed before is dropped when the next block begins; the byte goes
to KLEN mod 64; the byte that fills the block compresses it, and KBUF is kept. -/
def Engine.appendByte (e : Engine) (b : Byte) : Engine :=
  let pos := e.klen.toNat % 64
  let kbuf := if pos = 0 ∧ 0 < e.klen.toNat then Vector.replicate 64 0 else e.kbuf
  let kbuf := kbuf.set pos b (Nat.mod_lt _ (by decide))
  let klen := e.klen + 1
  let kh := if klen.toNat % 64 = 0 then compress e.kh kbuf else e.kh
  { e with kbuf := kbuf, klen := klen, kh := kh }

/-- The bytes of an accepted key write, in order (R102). -/
def Engine.appendBytes (e : Engine) (bs : List Byte) : Engine := bs.foldl Engine.appendByte e

/-- `KeyAppend(s)` (R102): the three checks in the order of 60_exceptions.md R311, then all the bytes or none. -/
def Engine.keyAppend (e : Engine) (bs : List Byte) : Engine :=
  if e.busy then e.raiseError .busy
  else if e.kstate ≠ .loading then e.raiseError .keyState
  else if Config.keyLenMax < e.klen.toNat + bs.length then e.raiseError .keyLen
  else e.appendBytes bs

/-! ## The completion rules (R104, R108) -/

/-- KeyClearComplete (R104). -/
def Engine.keyClearComplete (e : Engine) : Engine :=
  { e with
    klen := 0
    kbuf := Vector.replicate 64 0
    kh := sha1Init
    k0 := Vector.replicate 64 0
    kstate := .loading }

/-- The hash that KEY_FINAL finishes for a key of more than 64 bytes (R108): the unfinished block, the padding and the
length, from the streamed chaining value. -/
def Engine.finalHash (e : Engine) : Digest :=
  hashBytes (absorb e.kh (e.kbuf.toList.take (e.klen.toNat % 64) ++ padTail e.klen.toNat))

/-- K0 as KEY_FINAL forms it (R108). -/
def Engine.finalK0 (e : Engine) : Block :=
  if e.klen.toNat ≤ 64 then e.kbuf else toBlock e.finalHash.toList

/-- KeyFinalComplete (R108). KLEN is kept. -/
def Engine.keyFinalComplete (e : Engine) : Engine :=
  { e with
    k0 := e.finalK0
    kbuf := Vector.replicate 64 0
    kh := Vector.replicate 5 0
    kstate := .ready }

/-! ## The instructions -/

/-- CMD.KEY_CLEAR at issue (R103): accepted in every KSTATE. -/
def execCmdKeyClear (s : State) : Result :=
  writeReturn (if s.eng.busy then s.eng.raiseError .busy else s.eng.startJob .keyClear) s

/-- CMD.KEY_FINAL at issue (R107). -/
def execCmdKeyFinal (s : State) : Result :=
  writeReturn
    (if s.eng.busy then s.eng.raiseError .busy
     else if s.eng.kstate ≠ .loading then s.eng.raiseError .keyState
     else s.eng.startJob .keyFinal) s

/-- WR.KEY_WORD (R105). -/
def execWrKeyWord (data : Word) (s : State) : Result := writeReturn (s.eng.keyAppend (operandKeyWord data)) s

/-- WR.KEY_BYTE (R106). -/
def execWrKeyByte (data : Word) (s : State) : Result := writeReturn (s.eng.keyAppend (operandKeyByte data)) s

end Sys2Proof.Machine
end

