-- ==== Sys2Proof/Machine/Reads.lean ====
section
/-! DEFINITION. Register reads (43_register_access.md R220 to R249). A read is allowed in every state and changes none. -/

namespace Sys2Proof.Machine

/-- RD.ID (R221). -/
def execRdId (s : State) : Result := readReturn Config.idValue s

/-- RD.VERSION (R222). -/
def execRdVersion (s : State) : Result := readReturn Config.versionValue s

/-- RD.CTRL (R223). -/
def execRdCtrl (s : State) : Result := readReturn s.eng.ctrlWord s

/-- RD.STATUS (R225): reading does not clear DONE or ERR. -/
def execRdStatus (s : State) : Result := readReturn s.eng.statusWord s

/-- RD.CMD (R227): CMD has no storage. -/
def execRdCmd (s : State) : Result := readReturn 0 s

/-- RD.KEY_WORD (R231): no key byte can be read back (40_key.md R112). -/
def execRdKeyWord (s : State) : Result := readReturn 0 s

/-- RD.KEY_BYTE (R232): no key byte can be read back (40_key.md R112). -/
def execRdKeyByte (s : State) : Result := readReturn 0 s

/-- RD.KEY_LEN_LO (R233). -/
def execRdKeyLenLo (s : State) : Result := readReturn (lowHalf s.eng.klen) s

/-- RD.KEY_LEN_HI (R234). -/
def execRdKeyLenHi (s : State) : Result := readReturn (highHalf s.eng.klen) s

/-- RD.COUNTER_HI (R235). -/
def execRdCounterHi (s : State) : Result := readReturn (highHalf s.eng.counter) s

/-- RD.COUNTER_LO (R237). -/
def execRdCounterLo (s : State) : Result := readReturn (lowHalf s.eng.counter) s

/-- RD.DIGEST0 (R239). -/
def execRdDigest0 (s : State) : Result := readReturn (s.eng.digestWord 0) s

/-- RD.DIGEST1 (R240). -/
def execRdDigest1 (s : State) : Result := readReturn (s.eng.digestWord 1) s

/-- RD.DIGEST2 (R241). -/
def execRdDigest2 (s : State) : Result := readReturn (s.eng.digestWord 2) s

/-- RD.DIGEST3 (R242). -/
def execRdDigest3 (s : State) : Result := readReturn (s.eng.digestWord 3) s

/-- RD.DIGEST4 (R243). -/
def execRdDigest4 (s : State) : Result := readReturn (s.eng.digestWord 4) s

/-- RD.OFFSET (R244). -/
def execRdOffset (s : State) : Result := readReturn (s.eng.offset.setWidth 32) s

/-- RD.TRUNC (R245). -/
def execRdTrunc (s : State) : Result := readReturn (s.eng.trunc.setWidth 32) s

/-- RD.OTP (R246). -/
def execRdOtp (s : State) : Result := readReturn s.eng.otp s

/-- RD.OTP_BCD_LO (R247). -/
def execRdOtpBcdLo (s : State) : Result := readReturn s.eng.bcdLoWord s

/-- RD.OTP_BCD_HI (R248). -/
def execRdOtpBcdHi (s : State) : Result := readReturn s.eng.bcdHiWord s

/-- RD.RSVD (R249): a reserved offset reads 0. -/
def execRdRsvd (s : State) : Result := readReturn 0 s

end Sys2Proof.Machine
end

