-- ==== Sys2Proof/Machine/Writes.lean ====
section
/-! DEFINITION. Register writes: the operand and flag registers, and the writes that are ignored
(43_register_access.md R224, R226, R236, R238, R250 to R265). None of them checks BUSY (60_exceptions.md R304). -/

namespace Sys2Proof.Machine

/-- A write that is ignored: no state changes and no error is recorded (R251, R250). -/
def ignoredWrite (s : State) : Result := writeReturn s.eng s

/-- WR.CTRL (R224): DIGITS, DONE_IE and ERR_IE as written, every other bit ignored. -/
def execWrCtrl (data : Word) (s : State) : Result :=
  writeReturn
    { s.eng with digits := operandDigits data, doneIe := operandDoneIe data, errIe := operandErrIe data } s

/-- WR.STATUS (R226): write 1 to clear DONE and ERR, every other bit ignored. -/
def execWrStatus (data : Word) (s : State) : Result :=
  let e := if operandClearDone data then s.eng.clearDone else s.eng
  let e := if operandClearErr data then e.clearErr else e
  writeReturn e s

/-- WR.COUNTER_HI (R236): COUNTER[31:0] is unchanged. -/
def execWrCounterHi (data : Word) (s : State) : Result :=
  writeReturn { s.eng with counter := joinHalves data (lowHalf s.eng.counter) } s

/-- WR.COUNTER_LO (R238): no carry into COUNTER_HI. -/
def execWrCounterLo (data : Word) (s : State) : Result :=
  writeReturn { s.eng with counter := joinHalves (highHalf s.eng.counter) data } s

/-- WR.ID (R252): ignored. -/
def execWrId (s : State) : Result := ignoredWrite s

/-- WR.VERSION (R253): ignored. -/
def execWrVersion (s : State) : Result := ignoredWrite s

/-- WR.KEY_LEN_LO (R254): ignored. -/
def execWrKeyLenLo (s : State) : Result := ignoredWrite s

/-- WR.KEY_LEN_HI (R255): ignored. -/
def execWrKeyLenHi (s : State) : Result := ignoredWrite s

/-- WR.DIGEST0 (R256): ignored. -/
def execWrDigest0 (s : State) : Result := ignoredWrite s

/-- WR.DIGEST1 (R257): ignored. -/
def execWrDigest1 (s : State) : Result := ignoredWrite s

/-- WR.DIGEST2 (R258): ignored. -/
def execWrDigest2 (s : State) : Result := ignoredWrite s

/-- WR.DIGEST3 (R259): ignored. -/
def execWrDigest3 (s : State) : Result := ignoredWrite s

/-- WR.DIGEST4 (R260): ignored. -/
def execWrDigest4 (s : State) : Result := ignoredWrite s

/-- WR.OFFSET (R261): ignored. -/
def execWrOffset (s : State) : Result := ignoredWrite s

/-- WR.TRUNC (R262): ignored. -/
def execWrTrunc (s : State) : Result := ignoredWrite s

/-- WR.OTP (R263): ignored. -/
def execWrOtp (s : State) : Result := ignoredWrite s

/-- WR.OTP_BCD_LO (R264): ignored. -/
def execWrOtpBcdLo (s : State) : Result := ignoredWrite s

/-- WR.OTP_BCD_HI (R265): ignored. -/
def execWrOtpBcdHi (s : State) : Result := ignoredWrite s

/-- WR.RSVD (R250): ignored. -/
def execWrRsvd (s : State) : Result := ignoredWrite s

end Sys2Proof.Machine
end

