-- ==== Sys2Proof/Machine/Dispatch.lean ====
section
/-! DEFINITION. One arm for each instruction (30_encoding.md R85, R86). -/

namespace Sys2Proof.Machine

def exec (i : Instr) (s : State) : Host.Outcome State Fault Refusal :=
  match i with
  | .buserrSize0 w off _ => Sys2Proof.Machine.execBuserrSize0 w off s
  | .buserrSize1 w off _ => Sys2Proof.Machine.execBuserrSize1 w off s
  | .buserrSize3 w off _ => Sys2Proof.Machine.execBuserrSize3 w off s
  | .buserrMisalignB0 w off _ => Sys2Proof.Machine.execBuserrMisalignB0 w off s
  | .buserrMisalignB1 w off _ => Sys2Proof.Machine.execBuserrMisalignB1 w off s
  | .cmdNop => Sys2Proof.Machine.execCmdNop s
  | .cmdKeyClear => Sys2Proof.Machine.execCmdKeyClear s
  | .cmdKeyFinal => Sys2Proof.Machine.execCmdKeyFinal s
  | .cmdHotp => Sys2Proof.Machine.execCmdHotp s
  | .cmdSoftReset => Sys2Proof.Machine.execCmdSoftReset s
  | .cmdIllegal _ => Sys2Proof.Machine.execCmdIllegal s
  | .wrId _ => Sys2Proof.Machine.execWrId s
  | .wrVersion _ => Sys2Proof.Machine.execWrVersion s
  | .wrCtrl data => Sys2Proof.Machine.execWrCtrl data s
  | .wrStatus data => Sys2Proof.Machine.execWrStatus data s
  | .wrKeyWord data => Sys2Proof.Machine.execWrKeyWord data s
  | .wrKeyByte data => Sys2Proof.Machine.execWrKeyByte data s
  | .wrKeyLenLo _ => Sys2Proof.Machine.execWrKeyLenLo s
  | .wrKeyLenHi _ => Sys2Proof.Machine.execWrKeyLenHi s
  | .wrCounterHi data => Sys2Proof.Machine.execWrCounterHi data s
  | .wrCounterLo data => Sys2Proof.Machine.execWrCounterLo data s
  | .wrDigest0 _ => Sys2Proof.Machine.execWrDigest0 s
  | .wrDigest1 _ => Sys2Proof.Machine.execWrDigest1 s
  | .wrDigest2 _ => Sys2Proof.Machine.execWrDigest2 s
  | .wrDigest3 _ => Sys2Proof.Machine.execWrDigest3 s
  | .wrDigest4 _ => Sys2Proof.Machine.execWrDigest4 s
  | .wrOffset _ => Sys2Proof.Machine.execWrOffset s
  | .wrTrunc _ => Sys2Proof.Machine.execWrTrunc s
  | .wrOtp _ => Sys2Proof.Machine.execWrOtp s
  | .wrOtpBcdLo _ => Sys2Proof.Machine.execWrOtpBcdLo s
  | .wrOtpBcdHi _ => Sys2Proof.Machine.execWrOtpBcdHi s
  | .rdId _ => Sys2Proof.Machine.execRdId s
  | .rdVersion _ => Sys2Proof.Machine.execRdVersion s
  | .rdCtrl _ => Sys2Proof.Machine.execRdCtrl s
  | .rdStatus _ => Sys2Proof.Machine.execRdStatus s
  | .rdCmd _ => Sys2Proof.Machine.execRdCmd s
  | .rdKeyWord _ => Sys2Proof.Machine.execRdKeyWord s
  | .rdKeyByte _ => Sys2Proof.Machine.execRdKeyByte s
  | .rdKeyLenLo _ => Sys2Proof.Machine.execRdKeyLenLo s
  | .rdKeyLenHi _ => Sys2Proof.Machine.execRdKeyLenHi s
  | .rdCounterHi _ => Sys2Proof.Machine.execRdCounterHi s
  | .rdCounterLo _ => Sys2Proof.Machine.execRdCounterLo s
  | .rdDigest0 _ => Sys2Proof.Machine.execRdDigest0 s
  | .rdDigest1 _ => Sys2Proof.Machine.execRdDigest1 s
  | .rdDigest2 _ => Sys2Proof.Machine.execRdDigest2 s
  | .rdDigest3 _ => Sys2Proof.Machine.execRdDigest3 s
  | .rdDigest4 _ => Sys2Proof.Machine.execRdDigest4 s
  | .rdOffset _ => Sys2Proof.Machine.execRdOffset s
  | .rdTrunc _ => Sys2Proof.Machine.execRdTrunc s
  | .rdOtp _ => Sys2Proof.Machine.execRdOtp s
  | .rdOtpBcdLo _ => Sys2Proof.Machine.execRdOtpBcdLo s
  | .rdOtpBcdHi _ => Sys2Proof.Machine.execRdOtpBcdHi s
  | .rdRsvd _ _ => Sys2Proof.Machine.execRdRsvd s
  | .wrRsvd _ _ => Sys2Proof.Machine.execWrRsvd s

end Sys2Proof.Machine
end

