-- ==== Sys2Proof/Machine/Bus.lean ====
section
/-! DEFINITION. What each input does to the machine (00_scope.md R11; 20_memory.md R60, R61, R74; 70_reset_and_hazards.md
R340, R343). Step.lean takes the next input and calls this. -/

namespace Sys2Proof.Machine

/-- The completion rule of the pending job (10_state.md R42). JOB = NONE has none: no state of a run is busy with it
(notes/assumptions/11.md). -/
def Engine.completeJob (e : Engine) : Engine :=
  match e.job with
  | .none => e
  | .keyClear => e.keyClearComplete
  | .keyFinal => e.keyFinalComplete
  | .hotp => e.hotpComplete

/-- EngineStep (R42): enabled iff BUSY = 1; the completion rule and the common ending, all in one step. When it is not
enabled nothing happens. -/
def Engine.engineStep (e : Engine) : Engine := if e.busy then e.completeJob.finishJob else e

/-- The engine's turn. While RST_N = 0 the engine is held in reset and does nothing (R340). -/
def engineTurn (s : State) : Result :=
  .next (if s.rstN then { s with eng := s.eng.engineStep } else s)

/-- A host step (R11): the transaction is decoded and run. There is none while reset is held (R343). -/
def hostTransaction (t : TWord) (s : State) : Result :=
  if s.rstN then exec (decode t) s else .refused .transactionDuringReset

/-- An access at a bus address: a transaction of the engine when the address lies in the window (R61). -/
def hostAccess (w : Bool) (size : Size) (addr : Nat) (wdata : Word) (s : State) : Result :=
  match accessWord w size addr wdata with
  | some t => hostTransaction t s
  | none => .fault (.notRouted addr)

/-- RST_N falls: the reset action takes place at once, and a pending job never completes (R340, R341, R342). -/
def assertReset (s : State) : Result := .next { s with rstN := false, eng := Engine.reset }

/-- RST_N rises: the engine leaves reset (R340). -/
def releaseReset (s : State) : Result := .next { s with rstN := true }

/-- What one input does. -/
def runInput (i : Input) (s : State) : Result :=
  match i with
  | .transaction t => hostTransaction t s
  | .access w size addr wdata => hostAccess w size addr wdata s
  | .engineTurn => engineTurn s
  | .resetAssert => assertReset s
  | .resetRelease => releaseReset s

/-- One step: the next input, on the machine without it. With no input left the host is idle and the turn is the engine's:
a pending job completes (R351), and an engine with none is left as it is (notes/assumptions/2.md). -/
def nextStep (s : State) : Result :=
  match s.inputs with
  | [] => engineTurn s
  | i :: rest => runInput i { s with inputs := rest }

/-- The machine with a transaction as its very next input, and RST_N released so that it is accepted. -/
def placeTransaction (t : TWord) (s : State) : State :=
  { s with rstN := true, inputs := .transaction t :: s.inputs }

end Sys2Proof.Machine
end

