-- ==== Sys2Proof/Machine/Step.lean ====
section
/-! DEFINITION. The step and how a transaction is placed for it. -/

namespace Sys2Proof.Machine

/-- One atomic step of the machine (00_scope.md R11): a host step, an engine step, or a change of RST_N. -/
def step (s : State) : Host.Outcome State Fault Refusal := nextStep s

/-- `s` with the transaction whose bits are `w`, of which the table numbers `nbits`, as the next input. A program comes
to run by a host that issues transactions (notes/assumptions/15.md). -/
def State.withFetchWord (s : State) (nbits w : Nat) : State :=
  placeTransaction (BitVec.ofNat 43 (w % 2 ^ nbits)) s

end Sys2Proof.Machine
end

