-- ==== Sys2Proof/Machine/Driver.lean ====
section
/-! DEFINITION. The host's side of the interface, as functions that build inputs and read results: the assembly forms of
30_encoding.md R88, the pseudo-instructions of R89, the Password of 42_hotp.md R186, and the host's counters of R189 and R190.
The engine sees only the transactions. No definition of the machine calls this file. -/

namespace Sys2Proof.Machine

/-! ## Assembly forms (R88) -/

/-- `WR <REG>, <imm32>`. -/
def asmWr (r : Reg) (imm : Word) : Input := .transaction (writeWord r.off imm)

/-- `RD <REG> -> <var>`. -/
def asmRd (r : Reg) : Input := .transaction (readWord r.off 0)

/-- `CMD <NAME>`, by the OP of the name (R83). -/
def asmCmd (op : Word) : Input := asmWr .cmd op

/-- `WRB <REG>, <imm32>`: an 8-bit write, always a bus error. -/
def asmWrb (r : Reg) (imm : Word) : Input := .transaction (transactionWord true 0 r.off imm)

/-- `WRH <REG>, <imm32>`: a 16-bit write, always a bus error. -/
def asmWrh (r : Reg) (imm : Word) : Input := .transaction (transactionWord true 1 r.off imm)

/-! ## Pseudo-instructions (R89) -/

/-- `WAIT`: polls of STATUS that see BUSY = 1, the engine's turn, and the poll that sees BUSY = 0. How many come before
the engine's turn is not fixed (70_reset_and_hazards.md R351), so it is an argument. -/
def pseudoWait (polls : Nat) : List Input :=
  List.replicate polls (asmRd .status) ++ [.engineTurn, asmRd .status]

/-- `CLRST`. -/
def pseudoClrst : List Input := [asmWr .status 0x30]

/-- `SETCTR <u64 c>`. -/
def pseudoSetctr (c : DWord) : List Input := [asmWr .counterHi (highHalf c), asmWr .counterLo (lowHalf c)]

/-- `SETDIG <d>`, with the host's copy of CTRL. -/
def pseudoSetdig (ctrl d : Word) : List Input := [asmWr .ctrl ((ctrl &&& 0xFFFFFFF0) ||| d)]

/-- The key bytes as KEY_WORD writes while four are left, then KEY_BYTE writes (R89, LOADKEY). -/
def keyWrites : List Byte → List Input
  | a :: b :: c :: d :: rest => asmWr .keyWord (be32 a b c d) :: keyWrites rest
  | rest => rest.map fun b => asmWr .keyByte (b.setWidth 32)

/-- `LOADKEY <bytes k>`. -/
def pseudoLoadkey (polls : Nat) (k : List Byte) : List Input :=
  [asmCmd 0x1] ++ pseudoWait polls ++ keyWrites k ++ [asmCmd 0x2] ++ pseudoWait polls

/-- `HOTP <u64 c>`. -/
def pseudoHotp (polls : Nat) (c : DWord) : List Input := pseudoSetctr c ++ [asmCmd 0x3] ++ pseudoWait polls

/-- `GETOTP -> v`. -/
def pseudoGetotp : List Input := [asmRd .otp]

/-! ## The Password and the host's counters -/

/-- The Password of a digit count: character `k` is the ASCII digit of `BCD[d - 1 - k]` (42_hotp.md R186). -/
def password (d : Nat) (bcd : Vector (BitVec 4) 9) : List Byte :=
  (List.range d).map fun k => 0x30 + (bcd.toList.getD (d - 1 - k) 0).setWidth 8

/-- The TOTP counter `floor(at_time / interval)`; a non-positive interval is refused before the division (R189).
DESIGN CHOICE (notes/assumptions/19.md): the number is exact and not bounded by 2^64 - 1, past which the spec gives a
counter no meaning (91_not_in_source.md N17). -/
def totpCounter (atTime : Nat) (interval : Int) : Option Nat :=
  if 0 < interval then some (atTime / interval.toNat) else none

/-- The counters of a sequence from time `t` on: `c0, c0 + 1, ..., c0 + count - 1` (R190).
DESIGN CHOICE (notes/assumptions/19.md): a counter past 2^64 - 1, which the spec gives no meaning and says a host refuses
(91_not_in_source.md N17; 93_implementation_defined.md I21), is returned as the exact number. It neither wraps nor reaches
the engine, since the two COUNTER writes take a 64-bit value (`pseudoSetctr`). -/
def sequenceCounters (t : Nat) (interval : Int) (count : Nat) : Option (List Nat) :=
  (totpCounter t interval).map fun c0 => (List.range count).map (c0 + ·)

end Sys2Proof.Machine
end

