-- ==== Sys2Proof/Safety.lean ====
section
/-! DEFINITION. The terms claims use: the invariants of 10_state.md R45, the key a record holds (40_key.md R100, R109), the
outcome table of 60_exceptions.md R311, and what a host can see (40_key.md R112). -/

namespace Sys2Proof.Machine

/-! ## The invariants of R45 -/

/-- 10_state.md R45 (a) to (g). TRUNC < 2^31 holds by the width of the field. -/
structure Engine.Inv (e : Engine) : Prop where
  /-- (a) -/
  busy_iff_job : e.busy = true ↔ e.job ≠ .none
  /-- (b) -/
  kstate_legal : e.kstate.bits ≠ 3
  /-- (c) -/
  errcode_clear : e.err = false → e.errcode = 0
  /-- (c) -/
  errcode_legal : e.err = true → 1 ≤ e.errcode.toNat ∧ e.errcode.toNat ≤ 6
  /-- (d) -/
  offset_of_digest : e.offset.toNat = e.digest[19].toNat % 16
  /-- (d), R37 -/
  bcd_of_otp : ∀ i : Fin 9, e.bcd[i].toNat = e.otp.toNat / 10 ^ i.val % 10
  /-- R36: the value is below 10^9, so nine digits are the whole decimal -/
  otp_bound : e.otp.toNat < 10 ^ 9
  /-- (e) -/
  klen_bound : e.klen.toNat ≤ 2 ^ 61 - 1
  /-- (f) -/
  hotp_ready : e.job = .hotp → e.kstate = .ready ∧ 1 ≤ e.jobDigits.toNat ∧ e.jobDigits.toNat ≤ 9
  /-- (g) -/
  ready_clear : e.kstate = .ready → e.kbuf = Vector.replicate 64 0 ∧ e.kh = Vector.replicate 5 0

/-- R45 of the record, and the record is held at its reset values while RST_N = 0 (70_reset_and_hazards.md R340). -/
structure State.Inv (s : State) : Prop where
  eng : s.eng.Inv
  held : s.rstN = false → s.eng = Engine.reset

/-! ## The key a record holds

R100: the key is the byte sequence appended since the last KEY_CLEAR completion. The record does not hold it; these
relations say what KLEN, KBUF, KH and K0 are for a given key. -/

/-- LOADING with the key bytes appended so far (R39, R40): KH is the hash state after the whole blocks of the key, and
KBUF holds the bytes after them, or the last block when there are none, with zeros behind. -/
structure Engine.Loading (key : List Byte) (e : Engine) : Prop where
  kstate : e.kstate = .loading
  klen : e.klen.toNat = key.length
  kh : e.kh = absorb sha1Init (key.take (64 * (key.length / 64)))
  kbuf : e.kbuf = toBlock (key.drop (64 * ((key.length - 1) / 64)))

/-- READY with a key (R41, R109): K0 is the HMAC key block of the key. -/
structure Engine.Ready (key : List Byte) (e : Engine) : Prop where
  kstate : e.kstate = .ready
  klen : e.klen.toNat = key.length
  k0 : e.k0 = k0Of key

/-- What the key elements are in every state a run reaches: LOADING and READY hold some key, K0 is zero unless READY (R41),
and a KEY_FINAL is pending only in LOADING (R107). -/
structure Engine.KeyInv (e : Engine) : Prop where
  loading : e.kstate = .loading → ∃ key, e.Loading key
  ready : e.kstate = .ready → ∃ key, e.Ready key
  k0_zero : e.kstate ≠ .ready → e.k0 = Vector.replicate 64 0
  final_loading : e.job = .keyFinal → e.kstate = .loading

/-! ## The outcome table of R311 -/

/-- The error that R311 gives an instruction in a record, if it gives one. -/
def refusalOf (i : Instr) (e : Engine) : Option ErrorCode :=
  match i with
  | .cmdNop | .cmdKeyClear => if e.busy then some .busy else none
  | .cmdIllegal _ => if e.busy then some .busy else some .badCmd
  | .cmdKeyFinal =>
    if e.busy then some .busy else if e.kstate ≠ .loading then some .keyState else none
  | .cmdHotp =>
    if e.busy then some .busy else if e.kstate ≠ .ready then some .noKey
    else if e.digits.toNat < 1 ∨ 9 < e.digits.toNat then some .digits else none
  | .wrKeyWord _ =>
    if e.busy then some .busy else if e.kstate ≠ .loading then some .keyState
    else if 2 ^ 61 - 1 < e.klen.toNat + 4 then some .keyLen else none
  | .wrKeyByte _ =>
    if e.busy then some .busy else if e.kstate ≠ .loading then some .keyState
    else if 2 ^ 61 - 1 < e.klen.toNat + 1 then some .keyLen else none
  | .cmdSoftReset | .wrCtrl _ | .wrStatus _ | .wrCounterHi _ | .wrCounterLo _ => none
  | .wrId _ | .wrVersion _ | .wrKeyLenLo _ | .wrKeyLenHi _ | .wrDigest0 _ | .wrDigest1 _ | .wrDigest2 _ | .wrDigest3 _
  | .wrDigest4 _ | .wrOffset _ | .wrTrunc _ | .wrOtp _ | .wrOtpBcdLo _ | .wrOtpBcdHi _ | .wrRsvd _ _ => none
  | .rdId _ | .rdVersion _ | .rdCtrl _ | .rdStatus _ | .rdCmd _ | .rdKeyWord _ | .rdKeyByte _ | .rdKeyLenLo _
  | .rdKeyLenHi _ | .rdCounterHi _ | .rdCounterLo _ | .rdDigest0 _ | .rdDigest1 _ | .rdDigest2 _ | .rdDigest3 _
  | .rdDigest4 _ | .rdOffset _ | .rdTrunc _ | .rdOtp _ | .rdOtpBcdLo _ | .rdOtpBcdHi _ | .rdRsvd _ _ => none
  | .buserrSize0 _ _ _ | .buserrSize1 _ _ _ | .buserrSize3 _ _ _
  | .buserrMisalignB0 _ _ _ | .buserrMisalignB1 _ _ _ => none

/-- A record after an error with a code has been raised (R302): ERR is set, and ERRCODE is the code unless an error was
recorded already. -/
def Engine.errorRecorded (code : BitVec 4) (e : Engine) : Engine :=
  { e with err := true, errcode := if e.err then e.errcode else code }

/-- The machine after a write that got OKAY and left a record. -/
def State.afterWrite (s : State) (e : Engine) : State := { s with eng := e, resp := some .okay }

/-- The machine after a read that returned a value (20_memory.md R67: nothing else changes). -/
def State.afterRead (s : State) (v : Word) : State := { s with resp := some (.data v) }

/-- The machine after a refused operation (60_exceptions.md R302, R310): the error record and an OKAY response. -/
def State.afterError (s : State) (code : BitVec 4) : State := s.afterWrite (s.eng.errorRecorded code)

/-- The transaction the next step runs, if its input is one. -/
def State.transactionNow (s : State) : Option TWord :=
  match s.inputs with
  | .transaction t :: _ => some t
  | .access w size addr wdata :: _ => accessWord w size addr wdata
  | _ => none

/-- The record's next step is the engine's: the turn is the engine's and reset is not held. -/
def State.engineTurnNow (s : State) : Bool :=
  s.rstN && (match s.inputs with
    | [] => true
    | i :: _ => i == .engineTurn)

/-! ## What a host can see (R112) -/

/-- The record with its key material blanked. -/
def Engine.withoutKey (e : Engine) : Engine :=
  { e with kbuf := Vector.replicate 64 0, kh := Vector.replicate 5 0, k0 := Vector.replicate 64 0 }

/-- The five result elements (10_state.md R46). -/
def Engine.results (e : Engine) : Digest × BitVec 4 × BitVec 31 × Word × Vector (BitVec 4) 9 :=
  (e.digest, e.offset, e.trunc, e.otp, e.bcd)

/-- The bits of a register that some field defines; the others are reserved (10_state.md R26, R27, R34 to R38). -/
def definedBits : Option Reg → Word
  | none => 0
  | some .cmd | some .keyWord | some .keyByte => 0
  | some .ctrl => 0x0000030F
  | some .status => 0x00000F37
  | some .offset => 0x0000000F
  | some .trunc => 0x7FFFFFFF
  | some .otpBcdHi => 0x0000000F
  | some _ => 0xFFFFFFFF

/-- The names of 10_state.md R23. -/
def regName : Reg → String
  | .id => "ID"
  | .version => "VERSION"
  | .ctrl => "CTRL"
  | .status => "STATUS"
  | .cmd => "CMD"
  | .keyWord => "KEY_WORD"
  | .keyByte => "KEY_BYTE"
  | .keyLenLo => "KEY_LEN_LO"
  | .keyLenHi => "KEY_LEN_HI"
  | .counterHi => "COUNTER_HI"
  | .counterLo => "COUNTER_LO"
  | .digest0 => "DIGEST0"
  | .digest1 => "DIGEST1"
  | .digest2 => "DIGEST2"
  | .digest3 => "DIGEST3"
  | .digest4 => "DIGEST4"
  | .offset => "OFFSET"
  | .trunc => "TRUNC"
  | .otp => "OTP"
  | .otpBcdLo => "OTP_BCD_LO"
  | .otpBcdHi => "OTP_BCD_HI"

/-- An input that is a host transaction or the engine's turn: no pin change and no access by bus address. -/
def Input.isOrdinary : Input → Bool
  | .transaction _ | .engineTurn => true
  | .access _ _ _ _ | .resetAssert | .resetRelease => false

end Sys2Proof.Machine
end

