-- ==== Sys2Proof/Certificates/Slice0/Obligations.lean ====
section
/-! DEFINITION. The statements about the model, for the provers. Each docstring names the rule of the spec it formalises. -/

open Sys2Proof Sys2Proof.Machine

/-! ## Steps and encoding -/

/-- O1. A host step is the decoded transaction (00_scope.md R11, 30_encoding.md R80): the step takes the transaction off the
inputs, and every word decodes to a well-formed instruction. -/
def Obligations.StepRunsDecodedTransaction : Prop :=
  ∀ (s : State) (t : TWord) (rest : List Input), s.rstN = true → s.inputs = .transaction t :: rest →
    (decode t).wf = true ∧ step s = exec (decode t) { s with inputs := rest }

/-- O2. The transaction that `withFetchWord` places is what the very next step runs (notes/assumptions/15.md). -/
def Obligations.PlacedTransactionIsNextStep : Prop :=
  ∀ (s : State) (nbits w : Nat) (i : Instr), decodeTableWord nbits w = some i →
    step (s.withFetchWord nbits w) = exec i { s with rstN := true }

/-- O3. The engine's turn (10_state.md R42): with BUSY = 1 the step performs the pending job and ends it. Three points are the
model's: a turn with BUSY = 0, when R42 enables no engine step, changes nothing (notes/assumptions/3.md); with no input left
the turn is the engine's (notes/assumptions/2.md); and the last bus response is kept (notes/assumptions/5.md). -/
def Obligations.EngineTurnEndsPendingJob : Prop :=
  ∀ (s : State) (rest : List Input), s.rstN = true →
    (s.inputs = .engineTurn :: rest → step s = .next { s with eng := s.eng.engineStep, inputs := rest }) ∧
    (s.inputs = [] → step s = .next { s with eng := s.eng.engineStep }) ∧
    (s.eng.busy = true →
      s.eng.engineStep.job = .none ∧ s.eng.engineStep.busy = false ∧ s.eng.engineStep.done = true) ∧
    (s.eng.busy = false → s.eng.engineStep = s.eng)

/-- O4. Words of 95_test_vectors.md V11 and V12 decode as the table there says. -/
def Obligations.SampleWordsDecode : Prop :=
  decode 0x40C00000030 = .buserrSize0 true 0x0C 0x30 ∧
  decode 0x50C00000030 = .buserrSize1 true 0x0C 0x30 ∧
  decode 0x70C00000030 = .buserrSize3 true 0x0C 0x30 ∧
  decode 0x00C00000000 = .buserrSize0 false 0x0C 0 ∧
  decode 0x20E00000000 = .buserrMisalignB1 false 0x0E 0 ∧
  decode 0x61100000003 = .buserrMisalignB0 true 0x11 3 ∧
  decode 0x6100000000F = .cmdSoftReset ∧
  decode 0x6100000001F = .cmdIllegal 0x1F ∧
  decode 0x61000000000 = .cmdNop ∧
  decode 0x20000000005 = .rdId 5 ∧
  decode 0x22C00000000 = .rdRsvd 0x2C 0 ∧
  decode 0x6FC12345678 = .wrRsvd 0xFC 0x12345678 ∧
  decode 0x61800000141 = .wrKeyByte 0x141 ∧
  decode 0x62412345678 = .wrCounterHi 0x12345678

/-- O5. Decoding an encoded well-formed instruction gives it back, with every operand (30_encoding.md R81 to R85). -/
def Obligations.DecodeInvertsEncode : Prop := ∀ i : Instr, i.wf = true → decode (encode i) = i

/-- O6. Every transaction word is the encoding of the well-formed instruction it decodes to: the decoder is total, and each
word selects one instruction (30_encoding.md R85). That no bit of the word is lost is the model's choice
(notes/assumptions/18.md): a read keeps the DATA bits that R81 says it ignores. -/
def Obligations.EncodeInvertsDecode : Prop := ∀ t : TWord, (decode t).wf = true ∧ encode (decode t) = t

/-- O7. 30_encoding.md R85: the five cases of the decoder in their order, and the row of the opcode table a word selects, the
first that matches in the table's order. The order within the bus-error rows, SIZE rows before misaligned rows, is the
model's reading (notes/assumptions/12.md): R85 orders the families, and its case 1 gives one name to all five rows. -/
def Obligations.DecodeFollowsTransactionRules : Prop :=
  ∀ t : TWord,
    (fieldSize t ≠ 2 ∨ (fieldOff t).toNat % 4 ≠ 0 →
      decode t = .buserrSize0 (fieldW t) (fieldOff t) (fieldData t) ∨
      decode t = .buserrSize1 (fieldW t) (fieldOff t) (fieldData t) ∨
      decode t = .buserrSize3 (fieldW t) (fieldOff t) (fieldData t) ∨
      decode t = .buserrMisalignB0 (fieldW t) (fieldOff t) (fieldData t) ∨
      decode t = .buserrMisalignB1 (fieldW t) (fieldOff t) (fieldData t)) ∧
    (fieldSize t = 2 → (fieldOff t).toNat % 4 = 0 → fieldW t = false →
      (∀ r : Reg, r.off = fieldOff t → (decode t).mnemonic = "RD." ++ regName r) ∧
      ((∀ r : Reg, r.off ≠ fieldOff t) → decode t = .rdRsvd (fieldOff t) (fieldData t))) ∧
    (fieldSize t = 2 → fieldW t = true → fieldOff t = 0x10 →
      (fieldData t = 0x0 → decode t = .cmdNop) ∧
      (fieldData t = 0x1 → decode t = .cmdKeyClear) ∧
      (fieldData t = 0x2 → decode t = .cmdKeyFinal) ∧
      (fieldData t = 0x3 → decode t = .cmdHotp) ∧
      (fieldData t = 0xF → decode t = .cmdSoftReset) ∧
      (fieldData t ∉ [0x0, 0x1, 0x2, 0x3, 0xF] → decode t = .cmdIllegal (fieldData t))) ∧
    (fieldSize t = 2 → (fieldOff t).toNat % 4 = 0 → fieldW t = true → fieldOff t ≠ 0x10 →
      (∀ r : Reg, r.off = fieldOff t → (decode t).mnemonic = "WR." ++ regName r) ∧
      ((∀ r : Reg, r.off ≠ fieldOff t) → decode t = .wrRsvd (fieldOff t) (fieldData t))) ∧
    (opcodeRowOf t).map (·.mnemonic) = some (decode t).mnemonic

/-! ## Register reads -/

/-- O8. 43_register_access.md R221, R222: ID and VERSION are constant in every state. -/
def Obligations.ReadIdAndVersionAreConstant : Prop :=
  ∀ (s : State) (d : Word),
    exec (.rdId d) s = .next (s.afterRead 0x484F5450) ∧
    exec (.rdVersion d) s = .next (s.afterRead 0x00010000)

/-- O9. 43_register_access.md R223 (CTRL) and the pseudocode of R225 (STATUS), with KSTATE as 10_state.md R43 encodes it; the
read changes nothing. -/
def Obligations.ReadCtrlAndStatusShowFields : Prop :=
  ∀ (s : State) (d : Word),
    (∃ v : Word, exec (.rdCtrl d) s = .next (s.afterRead v) ∧
      v.toNat = (if s.eng.errIe then 512 else 0) + (if s.eng.doneIe then 256 else 0) + s.eng.digits.toNat) ∧
    (∃ v : Word, exec (.rdStatus d) s = .next (s.afterRead v) ∧
      v.toNat = s.eng.errcode.toNat * 256 + (if s.eng.err then 32 else 0) + (if s.eng.done then 16 else 0) +
        (match s.eng.kstate with
          | .empty => 0
          | .loading => 2
          | .ready => 4) + (if s.eng.busy then 1 else 0))

/-- O10. 43_register_access.md R227, R231, R232, R249: CMD, KEY_WORD, KEY_BYTE and the reserved offsets read 0. -/
def Obligations.ReadWriteOnlyAndReservedIsZero : Prop :=
  ∀ (s : State) (off : Off) (d : Word),
    exec (.rdCmd d) s = .next (s.afterRead 0) ∧
    exec (.rdKeyWord d) s = .next (s.afterRead 0) ∧
    exec (.rdKeyByte d) s = .next (s.afterRead 0) ∧
    exec (.rdRsvd off d) s = .next (s.afterRead 0)

/-- O11. 43_register_access.md R233, R234 (KLEN in two words; the top three bits of the high word are 0 under the key limit),
R235, R237 (COUNTER in two words, not JOB_COUNTER). -/
def Obligations.ReadKeyLengthAndCounterHalves : Prop :=
  ∀ (s : State) (d : Word),
    (∃ v : Word, exec (.rdKeyLenLo d) s = .next (s.afterRead v) ∧ v.toNat = s.eng.klen.toNat % 2 ^ 32) ∧
    (∃ v : Word, exec (.rdKeyLenHi d) s = .next (s.afterRead v) ∧ v.toNat = s.eng.klen.toNat / 2 ^ 32 ∧
      (s.eng.klen.toNat ≤ 2 ^ 61 - 1 → v.toNat < 2 ^ 29)) ∧
    (∃ v : Word, exec (.rdCounterHi d) s = .next (s.afterRead v) ∧ v.toNat = s.eng.counter.toNat / 2 ^ 32) ∧
    (∃ v : Word, exec (.rdCounterLo d) s = .next (s.afterRead v) ∧ v.toNat = s.eng.counter.toNat % 2 ^ 32)

/-- O12. 43_register_access.md R239 to R243 (pseudocode): DIGESTi holds digest bytes 4i to 4i+3, the first in the highest
place; the low nibble of DIGEST4 is the last digest byte's, which R182 makes the offset. -/
def Obligations.ReadDigestWordsAreBigEndian : Prop :=
  ∀ (s : State) (d : Word),
    let at4 (n : Nat) : Nat :=
      (s.eng.digest.toList.getD n 0).toNat * 2 ^ 24 + (s.eng.digest.toList.getD (n + 1) 0).toNat * 2 ^ 16 +
        (s.eng.digest.toList.getD (n + 2) 0).toNat * 2 ^ 8 + (s.eng.digest.toList.getD (n + 3) 0).toNat
    (∃ v : Word, exec (.rdDigest0 d) s = .next (s.afterRead v) ∧ v.toNat = at4 0) ∧
    (∃ v : Word, exec (.rdDigest1 d) s = .next (s.afterRead v) ∧ v.toNat = at4 4) ∧
    (∃ v : Word, exec (.rdDigest2 d) s = .next (s.afterRead v) ∧ v.toNat = at4 8) ∧
    (∃ v : Word, exec (.rdDigest3 d) s = .next (s.afterRead v) ∧ v.toNat = at4 12) ∧
    (∃ v : Word, exec (.rdDigest4 d) s = .next (s.afterRead v) ∧ v.toNat = at4 16 ∧
      v.toNat % 16 = (s.eng.digest.toList.getD 19 0).toNat % 16)

/-- O13. 43_register_access.md R244 and R245 (OFFSET and TRUNC, zero-extended) and the pseudocode of R246 (OTP). -/
def Obligations.ReadTruncationResults : Prop :=
  ∀ (s : State) (d : Word),
    (∃ v : Word, exec (.rdOffset d) s = .next (s.afterRead v) ∧ v.toNat = s.eng.offset.toNat ∧ v.toNat < 16) ∧
    (∃ v : Word, exec (.rdTrunc d) s = .next (s.afterRead v) ∧ v.toNat = s.eng.trunc.toNat ∧ v.toNat < 2 ^ 31) ∧
    exec (.rdOtp d) s = .next (s.afterRead s.eng.otp)

/-- O14. 10_state.md R37, the packing sentence, and the pseudocode of 43_register_access.md R247 and R248: nibble i of
OTP_BCD_LO is BCD[i], and OTP_BCD_HI is BCD[8]. -/
def Obligations.ReadBcdPacksDigits : Prop :=
  ∀ (s : State) (d : Word),
    (∃ v : Word, exec (.rdOtpBcdLo d) s = .next (s.afterRead v) ∧
      ∀ i : Fin 8, v.toNat / 16 ^ i.val % 16 = (s.eng.bcd.toList.getD i.val 0).toNat) ∧
    (∃ v : Word, exec (.rdOtpBcdHi d) s = .next (s.afterRead v) ∧ v.toNat = (s.eng.bcd.toList.getD 8 0).toNat)

/-- O15. 43_register_access.md R220: an aligned 32-bit read returns the register at its offset (0 where there is none) and
changes no state, BUSY = 1 included; every reserved bit of the value is 0. -/
def Obligations.AlignedReadReturnsRegister : Prop :=
  ∀ (s : State) (off : Off) (d : Word), off.toNat % 4 = 0 →
    ∃ v : Word, exec (decode (readWord off d)) s = .next (s.afterRead v) ∧
      (∀ r : Reg, r.off = off → v = s.eng.readReg r) ∧
      ((∀ r : Reg, r.off ≠ off) → v = 0) ∧
      v &&& ~~~ definedBits (regAt off) = 0

/-! ## Register writes -/

/-- O16. 43_register_access.md R250, R251: a write to a read-only register or to a reserved offset changes no state and
records no error, in every state. -/
def Obligations.IgnoredWritesChangeNothing : Prop :=
  ∀ (s : State) (off : Off) (d : Word),
    exec (.wrId d) s = .next (s.afterWrite s.eng) ∧
    exec (.wrVersion d) s = .next (s.afterWrite s.eng) ∧
    exec (.wrKeyLenLo d) s = .next (s.afterWrite s.eng) ∧
    exec (.wrKeyLenHi d) s = .next (s.afterWrite s.eng) ∧
    exec (.wrDigest0 d) s = .next (s.afterWrite s.eng) ∧
    exec (.wrDigest1 d) s = .next (s.afterWrite s.eng) ∧
    exec (.wrDigest2 d) s = .next (s.afterWrite s.eng) ∧
    exec (.wrDigest3 d) s = .next (s.afterWrite s.eng) ∧
    exec (.wrDigest4 d) s = .next (s.afterWrite s.eng) ∧
    exec (.wrOffset d) s = .next (s.afterWrite s.eng) ∧
    exec (.wrTrunc d) s = .next (s.afterWrite s.eng) ∧
    exec (.wrOtp d) s = .next (s.afterWrite s.eng) ∧
    exec (.wrOtpBcdLo d) s = .next (s.afterWrite s.eng) ∧
    exec (.wrOtpBcdHi d) s = .next (s.afterWrite s.eng) ∧
    exec (.wrRsvd off d) s = .next (s.afterWrite s.eng)

/-- O17. 43_register_access.md R224: a CTRL write stores the three fields and nothing else, in every state, CTRL then reads
DATA with its reserved bits 0, and the IRQ level follows at once. -/
def Obligations.WriteCtrlStoresFields : Prop :=
  ∀ (s : State) (d : Word),
    ∃ t : State, exec (.wrCtrl d) s = .next t ∧
      t = s.afterWrite
        { s.eng with digits := d.extractLsb' 0 4, doneIe := d.getLsbD 8, errIe := d.getLsbD 9 } ∧
      t.eng.ctrlWord = d &&& 0x30F ∧
      t.irq = ((s.eng.done && d.getLsbD 8) || (s.eng.err && d.getLsbD 9))

/-- O18. 43_register_access.md R226: a STATUS write clears DONE by bit 4 and ERR with ERRCODE by bit 5, and nothing else, in
every state; the IRQ level follows; a completion that comes later sets DONE again. -/
def Obligations.WriteStatusClearsByOnes : Prop :=
  ∀ (s : State) (d : Word),
    ∃ t : State, exec (.wrStatus d) s = .next t ∧
      t = s.afterWrite
        { s.eng with
          done := s.eng.done && !d.getLsbD 4
          err := s.eng.err && !d.getLsbD 5
          errcode := if d.getLsbD 5 then 0 else s.eng.errcode } ∧
      t.irq = ((s.eng.done && !d.getLsbD 4 && s.eng.doneIe) || (s.eng.err && !d.getLsbD 5 && s.eng.errIe)) ∧
      (s.eng.busy = true → t.eng.engineStep.done = true)

/-- O19. 43_register_access.md R236, R238: each half of COUNTER is written alone, with no carry, in every state, and nothing
else changes (JOB_COUNTER of a pending job included). -/
def Obligations.WriteCounterHalves : Prop :=
  ∀ (s : State) (d : Word),
    (∃ c : DWord, exec (.wrCounterHi d) s = .next (s.afterWrite { s.eng with counter := c }) ∧
      c.toNat = d.toNat * 2 ^ 32 + s.eng.counter.toNat % 2 ^ 32) ∧
    (∃ c : DWord, exec (.wrCounterLo d) s = .next (s.afterWrite { s.eng with counter := c }) ∧
      c.toNat = s.eng.counter.toNat / 2 ^ 32 * 2 ^ 32 + d.toNat)

/-- O20. 20_memory.md R67, the sentence on idempotent writes: writing CTRL, COUNTER_HI or COUNTER_LO a second time changes
nothing more. -/
def Obligations.OperandWritesAreIdempotent : Prop :=
  ∀ (s t : State) (d : Word) (i : Instr), i = .wrCtrl d ∨ i = .wrCounterHi d ∨ i = .wrCounterLo d →
    exec i s = .next t → exec i t = .next t

/-! ## Commands -/

/-- O21. 43_register_access.md R228, its pseudocode and Exceptions: CMD.NOP has no effect when idle and raises ERR_BUSY when
busy. -/
def Obligations.NopOnlyChecksBusy : Prop :=
  ∀ s : State,
    (s.eng.busy = false → exec .cmdNop s = .next (s.afterWrite s.eng)) ∧
    (s.eng.busy = true → exec .cmdNop s = .next (s.afterError 2))

/-- O22. 43_register_access.md R230: a write to CMD of any other word is CMD.ILLEGAL, which raises ERR_BUSY when busy and
ERR_BADCMD otherwise, and does nothing else. -/
def Obligations.IllegalCommandIsRefused : Prop :=
  ∀ (s : State) (d : Word),
    (d ∉ [0x0, 0x1, 0x2, 0x3, 0xF] → decode (writeWord 0x10 d) = .cmdIllegal d) ∧
    (s.eng.busy = true → exec (.cmdIllegal d) s = .next (s.afterError 2)) ∧
    (s.eng.busy = false → exec (.cmdIllegal d) s = .next (s.afterError 1))

/-- O23. 43_register_access.md R229 and 70_reset_and_hazards.md R341: in every state CMD.SOFT_RESET sets every element of R20
to its reset value; the registers then read ID, VERSION, 0x00000006 and 0, IRQ = 0, and no completion follows. -/
def Obligations.SoftResetSetsEveryElement : Prop :=
  ∀ s : State, ∃ t : State, exec .cmdSoftReset s = .next t ∧ t = s.afterWrite t.eng ∧
    t.eng.digits = 6 ∧ t.eng.doneIe = false ∧ t.eng.errIe = false ∧ t.eng.busy = false ∧ t.eng.job = .none ∧
    t.eng.jobCounter = 0 ∧ t.eng.jobDigits = 0 ∧ t.eng.kstate = .empty ∧ t.eng.klen = 0 ∧
    t.eng.kbuf = Vector.replicate 64 0 ∧ t.eng.kh = Vector.replicate 5 0 ∧ t.eng.k0 = Vector.replicate 64 0 ∧
    t.eng.done = false ∧ t.eng.err = false ∧ t.eng.errcode = 0 ∧ t.eng.counter = 0 ∧
    t.eng.digest = Vector.replicate 20 0 ∧ t.eng.offset = 0 ∧ t.eng.trunc = 0 ∧ t.eng.otp = 0 ∧
    t.eng.bcd = Vector.replicate 9 0 ∧ t.irq = false ∧
    t.eng.readReg .id = 0x484F5450 ∧ t.eng.readReg .version = 0x00010000 ∧ t.eng.readReg .ctrl = 0x00000006 ∧
    (∀ r : Reg, r ≠ .id → r ≠ .version → r ≠ .ctrl → t.eng.readReg r = 0) ∧
    t.eng.engineStep = t.eng ∧
    decode 0x6100000000F = .cmdSoftReset ∧ decode 0x6100000001F = .cmdIllegal 0x1F

/-- O24. 40_key.md R103 and R104: CMD.KEY_CLEAR starts its job in every KSTATE unless busy, and the job's completion clears
the key elements, sets KH to H(0) and goes to LOADING; the common ending follows and nothing else changes. -/
def Obligations.KeyClearStartsAndCompletes : Prop :=
  (∀ s : State, s.eng.busy = false →
    exec .cmdKeyClear s = .next (s.afterWrite { s.eng with job := .keyClear, busy := true })) ∧
  (∀ s : State, s.eng.busy = true → exec .cmdKeyClear s = .next (s.afterError 2)) ∧
  (∀ e : Engine, e.busy = true → e.job = .keyClear →
    e.engineStep =
      { e with
        klen := 0
        kbuf := Vector.replicate 64 0
        kh := #v[0x67452301, 0xEFCDAB89, 0x98BADCFE, 0x10325476, 0xC3D2E1F0]
        k0 := Vector.replicate 64 0
        kstate := .loading
        job := .none
        busy := false
        done := true })

/-- O25. 40_key.md R105: the outcomes of a KEY_WORD write in their order; an accepted one appends DATA[31:24] first and
DATA[7:0] last. -/
def Obligations.KeyWordWriteAppendsFourBytes : Prop :=
  ∀ (s : State) (d : Word),
    (s.eng.busy = true → exec (.wrKeyWord d) s = .next (s.afterError 2)) ∧
    (s.eng.busy = false → s.eng.kstate ≠ .loading → exec (.wrKeyWord d) s = .next (s.afterError 3)) ∧
    (s.eng.busy = false → s.eng.kstate = .loading → 2 ^ 61 - 1 < s.eng.klen.toNat + 4 →
      exec (.wrKeyWord d) s = .next (s.afterError 6)) ∧
    (s.eng.busy = false → s.eng.kstate = .loading → s.eng.klen.toNat + 4 ≤ 2 ^ 61 - 1 →
      exec (.wrKeyWord d) s = .next (s.afterWrite
        ((((s.eng.appendByte (d.extractLsb' 24 8)).appendByte (d.extractLsb' 16 8)).appendByte
          (d.extractLsb' 8 8)).appendByte (d.extractLsb' 0 8))))

/-- O26. 40_key.md R106: the outcomes of a KEY_BYTE write in their order; an accepted one appends DATA[7:0], whatever
DATA[31:8] is. -/
def Obligations.KeyByteWriteAppendsOneByte : Prop :=
  ∀ (s : State) (d : Word),
    (s.eng.busy = true → exec (.wrKeyByte d) s = .next (s.afterError 2)) ∧
    (s.eng.busy = false → s.eng.kstate ≠ .loading → exec (.wrKeyByte d) s = .next (s.afterError 3)) ∧
    (s.eng.busy = false → s.eng.kstate = .loading → 2 ^ 61 - 1 < s.eng.klen.toNat + 1 →
      exec (.wrKeyByte d) s = .next (s.afterError 6)) ∧
    (s.eng.busy = false → s.eng.kstate = .loading → s.eng.klen.toNat + 1 ≤ 2 ^ 61 - 1 →
      exec (.wrKeyByte d) s = .next (s.afterWrite (s.eng.appendByte (d.extractLsb' 0 8))))

/-- O27. `AppendByte` of 40_key.md R102, byte by byte: what it writes to KBUF, KLEN and KH, and that it writes nothing else. -/
def Obligations.AppendByteFillsAndCompresses : Prop :=
  ∀ (e : Engine) (b : Byte),
    (∀ i : Nat, i < 64 →
      (e.appendByte b).kbuf.toList.getD i 0 =
        if i = e.klen.toNat % 64 then b
        else if e.klen.toNat % 64 = 0 ∧ 0 < e.klen.toNat then 0
        else e.kbuf.toList.getD i 0) ∧
    (e.appendByte b).klen = e.klen + 1 ∧
    (e.appendByte b).kh =
      (if (e.klen.toNat + 1) % 64 = 0 then compress e.kh (e.appendByte b).kbuf else e.kh) ∧
    e.appendByte b =
      { e with kbuf := (e.appendByte b).kbuf, klen := (e.appendByte b).klen, kh := (e.appendByte b).kh }

/-- O28. 40_key.md R107 and R108: CMD.KEY_FINAL starts its job only in LOADING, and the job's completion forms K0 (KBUF itself
up to 64 bytes, else the finished hash of the stream), clears KBUF and KH and goes to READY; KLEN is kept. -/
def Obligations.KeyFinalStartsAndCompletes : Prop :=
  (∀ s : State,
    (s.eng.busy = true → exec .cmdKeyFinal s = .next (s.afterError 2)) ∧
    (s.eng.busy = false → s.eng.kstate ≠ .loading → exec .cmdKeyFinal s = .next (s.afterError 3)) ∧
    (s.eng.busy = false → s.eng.kstate = .loading →
      exec .cmdKeyFinal s = .next (s.afterWrite { s.eng with job := .keyFinal, busy := true }))) ∧
  (∀ e : Engine, e.busy = true → e.job = .keyFinal →
    let t := e.klen.toNat % 64
    let p := e.kbuf.toList.take t ++ [0x80] ++ zeros ((119 - t) % 64) ++ be64 (BitVec.ofNat 64 (8 * e.klen.toNat))
    (p.length = 64 ∨ p.length = 128) ∧
    e.engineStep =
      { e with
        k0 := if e.klen.toNat ≤ 64 then e.kbuf else toBlock (hashBytes (absorb e.kh p)).toList
        kbuf := Vector.replicate 64 0
        kh := Vector.replicate 5 0
        kstate := .ready
        job := .none
        busy := false
        done := true })

/-- O29. The issue rule of 42_hotp.md R180: the three checks in order, then COUNTER and DIGITS are latched, the job starts and
nothing else changes. -/
def Obligations.HotpIssueChecksAndLatches : Prop :=
  ∀ s : State,
    (s.eng.busy = true → exec .cmdHotp s = .next (s.afterError 2)) ∧
    (s.eng.busy = false → s.eng.kstate ≠ .ready → exec .cmdHotp s = .next (s.afterError 4)) ∧
    (s.eng.busy = false → s.eng.kstate = .ready → s.eng.digits ∈ [0, 10, 11, 12, 13, 14, 15] →
      exec .cmdHotp s = .next (s.afterError 5)) ∧
    (s.eng.busy = false → s.eng.kstate = .ready → s.eng.digits ∉ [0, 10, 11, 12, 13, 14, 15] →
      exec .cmdHotp s = .next (s.afterWrite
        { s.eng with jobCounter := s.eng.counter, jobDigits := s.eng.digits, job := .hotp, busy := true }))

/-- O30. 42_hotp.md R181: the completion of a HOTP job writes DIGEST, OFFSET, TRUNC, OTP and BCD from K0, JOB_COUNTER and
JOB_DIGITS, then the common ending; KSTATE, K0, KLEN, COUNTER and CTRL are unchanged. -/
def Obligations.HotpCompletionWritesResults : Prop :=
  ∀ e : Engine, e.busy = true → e.job = .hotp →
    let dg := sha1 ((e.k0.map (· ^^^ 0x5C)).toList ++
      (sha1 ((e.k0.map (· ^^^ 0x36)).toList ++ be64 e.jobCounter)).toList)
    let off := (dg.toList.getD 19 0).toNat % 16
    let raw := (dg.toList.getD off 0).toNat * 2 ^ 24 + (dg.toList.getD (off + 1) 0).toNat * 2 ^ 16 +
      (dg.toList.getD (off + 2) 0).toNat * 2 ^ 8 + (dg.toList.getD (off + 3) 0).toNat
    let t := e.engineStep
    t.digest = dg ∧ t.offset.toNat = off ∧ t.trunc.toNat = raw % 2 ^ 31 ∧
    t.otp.toNat = t.trunc.toNat % 10 ^ e.jobDigits.toNat ∧
    (∀ i : Fin 9, t.bcd[i].toNat = t.otp.toNat / 10 ^ i.val % 10) ∧
    t = { e with
      digest := t.digest
      offset := t.offset
      trunc := t.trunc
      otp := t.otp
      bcd := t.bcd
      job := .none
      busy := false
      done := true }

/-- O31. 42_hotp.md R188 and R185: after a completion with d digits in 1..9, OFFSET ≤ 15, TRUNC < 2^31, OTP < 10^d, every digit
is at most 9, the digits from d on are 0, and the nine digits are the decimal of OTP. -/
def Obligations.HotpResultRanges : Prop :=
  ∀ e : Engine, e.busy = true → e.job = .hotp → 1 ≤ e.jobDigits.toNat → e.jobDigits.toNat ≤ 9 →
    let t := e.engineStep
    t.offset.toNat ≤ 15 ∧ t.trunc.toNat ≤ 2 ^ 31 - 1 ∧ t.otp.toNat < 10 ^ e.jobDigits.toNat ∧
    (∀ i : Fin 9, t.bcd[i].toNat ≤ 9) ∧
    (∀ i : Fin 9, e.jobDigits.toNat ≤ i.val → t.bcd[i] = 0) ∧
    t.bcd[0].toNat + t.bcd[1].toNat * 10 + t.bcd[2].toNat * 10 ^ 2 + t.bcd[3].toNat * 10 ^ 3 +
      t.bcd[4].toNat * 10 ^ 4 + t.bcd[5].toNat * 10 ^ 5 + t.bcd[6].toNat * 10 ^ 6 + t.bcd[7].toNat * 10 ^ 7 +
      t.bcd[8].toNat * 10 ^ 8 = t.otp.toNat

/-- O32. 42_hotp.md R187: the results of a HOTP job are a function of K0, JOB_COUNTER and JOB_DIGITS alone. -/
def Obligations.HotpResultsDependOnLatchedOperandsOnly : Prop :=
  ∀ e₁ e₂ : Engine, e₁.busy = true → e₁.job = .hotp → e₂.busy = true → e₂.job = .hotp →
    e₁.k0 = e₂.k0 → e₁.jobCounter = e₂.jobCounter → e₁.jobDigits = e₂.jobDigits →
    e₁.engineStep.results = e₂.engineStep.results

/-! ## The hash core -/

/-- O33. 41_sha1_hmac.md R146: the padding is 0x80, zeros and the bit length, and the padded length is the least multiple of 64
that is at least n + 9. -/
def Obligations.PaddingIsLeastMultiple : Prop :=
  ∀ m : List Byte,
    (∃ k : Nat, k < 64 ∧ (k + m.length) % 64 = 55 ∧
      pad m = m ++ [0x80] ++ zeros k ++ be64 (BitVec.ofNat 64 (8 * m.length))) ∧
    (pad m).length % 64 = 0 ∧ m.length + 9 ≤ (pad m).length ∧ (pad m).length < m.length + 9 + 64

/-- O34. 41_sha1_hmac.md R154: the HMAC of the eight counter bytes is four compressions with fixed padding blocks. -/
def Obligations.HotpHmacIsFourCompressions : Prop :=
  ∀ (k0 : Block) (c : DWord), hmacOfBlock k0 (be64 c) = hotpCompressions k0 c

/-! ## Errors, bus errors, interrupts -/

/-- O35. 60_exceptions.md R302, for every instruction and every error R311 gives it: the first error is recorded, a later one
is not, nothing else changes and the response is OKAY. -/
def Obligations.RefusedOperationOnlyRecordsError : Prop :=
  ∀ (i : Instr) (s : State) (c : ErrorCode), refusalOf i s.eng = some c →
    exec i s = .next { s with
      eng := { s.eng with err := true, errcode := if s.eng.err then s.eng.errcode else c.bits }
      resp := some .okay }

/-- O36. 60_exceptions.md R311: an instruction the table gives no error records none; only a STATUS write and SOFT_RESET can
change ERR or ERRCODE then, and they only clear them. -/
def Obligations.AcceptedOperationRecordsNoError : Prop :=
  ∀ (i : Instr) (s : State), refusalOf i s.eng = none →
    ∃ t : State, exec i s = .next t ∧
      ((t.eng.err = s.eng.err ∧ t.eng.errcode = s.eng.errcode) ∨
       ((i = .cmdSoftReset ∨ ∃ d, i = .wrStatus d) ∧ t.eng.err = false ∧ t.eng.errcode = 0))

/-- O37. 60_exceptions.md R303 to R308: the cause of each error code, by the transaction written; while busy every other
aligned write gets OKAY and records no error. -/
def Obligations.ErrorCausesByTransaction : Prop :=
  ∀ (s : State) (d : Word),
    (s.eng.busy = false → d ∉ [0x0, 0x1, 0x2, 0x3, 0xF] →
      exec (decode (writeWord 0x10 d)) s = .next (s.afterError 1)) ∧
    (s.eng.busy = true → d ≠ 0xF → exec (decode (writeWord 0x10 d)) s = .next (s.afterError 2)) ∧
    (s.eng.busy = true → exec (decode (writeWord 0x14 d)) s = .next (s.afterError 2) ∧
      exec (decode (writeWord 0x18 d)) s = .next (s.afterError 2)) ∧
    (s.eng.busy = true → ∀ off : Off, off.toNat % 4 = 0 → off ∉ [0x10, 0x14, 0x18] →
      ∃ t : State, exec (decode (writeWord off d)) s = .next t ∧ t.resp = some .okay ∧
        (t.eng.err = true → s.eng.err = true ∧ t.eng.errcode = s.eng.errcode)) ∧
    (s.eng.busy = false → s.eng.kstate ≠ .loading →
      exec (decode (writeWord 0x14 d)) s = .next (s.afterError 3) ∧
      exec (decode (writeWord 0x18 d)) s = .next (s.afterError 3) ∧
      exec (decode (writeWord 0x10 0x2)) s = .next (s.afterError 3)) ∧
    (s.eng.busy = false → s.eng.kstate ≠ .ready →
      exec (decode (writeWord 0x10 0x3)) s = .next (s.afterError 4)) ∧
    (s.eng.busy = false → s.eng.kstate = .ready → s.eng.digits ∈ [0, 10, 11, 12, 13, 14, 15] →
      exec (decode (writeWord 0x10 0x3)) s = .next (s.afterError 5)) ∧
    (s.eng.busy = false → s.eng.kstate = .loading → 2 ^ 61 - 1 < s.eng.klen.toNat + 4 →
      exec (decode (writeWord 0x14 d)) s = .next (s.afterError 6)) ∧
    (s.eng.busy = false → s.eng.kstate = .loading → 2 ^ 61 - 1 < s.eng.klen.toNat + 1 →
      exec (decode (writeWord 0x18 d)) s = .next (s.afterError 6))

/-- O38. 20_memory.md R62 to R64 and 60_exceptions.md R309: a transaction with SIZE other than 2 or a misaligned offset gets the
BUSERROR response with its offset, W and SIZE, records nothing and changes no element of the record; so do the five rows of
the table. That the machine goes on, in a next state that holds the response, is the model's choice
(notes/assumptions/4.md): R64 calls the outcome a fault. -/
def Obligations.BusErrorChangesNothing : Prop :=
  ∀ (s : State) (w : Bool) (size : Size) (off : Off) (d : Word),
    (size ≠ 2 ∨ off.toNat % 4 ≠ 0 →
      exec (decode (transactionWord w size off d)) s = .next { s with resp := some (.busError off w size) }) ∧
    exec (.buserrSize0 w off d) s = .next { s with resp := some (.busError off w 0) } ∧
    exec (.buserrSize1 w off d) s = .next { s with resp := some (.busError off w 1) } ∧
    exec (.buserrSize3 w off d) s = .next { s with resp := some (.busError off w 3) } ∧
    exec (.buserrMisalignB0 w off d) s = .next { s with resp := some (.busError off w 2) } ∧
    exec (.buserrMisalignB1 w off d) s = .next { s with resp := some (.busError off w 2) }

/-- O39. 10_state.md R44: IRQ is the level of the pending bits and their enables; a completion with DONE_IE raises it, and so
does a refused operation with ERR_IE. -/
def Obligations.IrqIsLevelOfPendingAndEnable : Prop :=
  (∀ s : State, s.irq = true ↔
    (s.eng.done = true ∧ s.eng.doneIe = true) ∨ (s.eng.err = true ∧ s.eng.errIe = true)) ∧
  (∀ e : Engine, e.busy = true → e.doneIe = true → e.engineStep.irq = true) ∧
  (∀ (i : Instr) (s t : State) (c : ErrorCode), refusalOf i s.eng = some c → s.eng.errIe = true →
    exec i s = .next t → t.irq = true)

/-- O40. Every instruction of the table answers a next state, in every state, and touches neither RST_N nor the inputs still
to come: no instruction stops the machine (the model's reading of 20_memory.md R64, notes/assumptions/4.md). -/
def Obligations.EveryInstructionAnswersNext : Prop :=
  ∀ (i : Instr) (s : State), ∃ t : State, exec i s = .next t ∧ t.rstN = s.rstN ∧ t.inputs = s.inputs ∧
    t.resp ≠ none

/-! ## Reset and the bus route -/

/-- O41. 70_reset_and_hazards.md R340, R342, R343: RST_N falling sets every element to its reset value and drops a pending
job; while it is low the engine takes no turn, and neither a transaction nor an access in the window has a run; rising
releases it. The model's choices in it: the pin as a field and the form of the refusal (notes/assumptions/6.md); the last bus
response is kept through a change of the pin and through a held turn (notes/assumptions/5.md); with no input left the held
turn is the engine's (notes/assumptions/2.md); and an access outside the window is not routed, held or not
(notes/assumptions/8.md). -/
def Obligations.ResetPinHoldsEngine : Prop :=
  ∀ (s : State) (rest : List Input) (t : TWord),
    (s.inputs = .resetAssert :: rest →
      step s = .next { s with rstN := false, eng := Engine.reset, inputs := rest }) ∧
    (s.inputs = .resetRelease :: rest → step s = .next { s with rstN := true, inputs := rest }) ∧
    (s.rstN = false → s.inputs = .engineTurn :: rest → step s = .next { s with inputs := rest }) ∧
    (s.rstN = false → s.inputs = [] → step s = .next s) ∧
    (s.rstN = false → s.inputs = .transaction t :: rest → step s = .refused .transactionDuringReset) ∧
    (s.rstN = false → ∀ (w : Bool) (size : Size) (wdata : Word),
      (∀ off : Off, s.inputs = .access w size (Config.base + off.toNat) wdata :: rest →
        step s = .refused .transactionDuringReset) ∧
      (∀ addr : Nat, addr < Config.base ∨ Config.base + 0xFF < addr → s.inputs = .access w size addr wdata :: rest →
        step s = .fault (.notRouted addr)))

/-- O42. 20_memory.md R61: an access in BASE .. BASE+0xFF is the transaction at `ADDR - BASE` (a read with DATA = 0), and any
other access is not the engine's, wherever the platform puts BASE (the stop is the model's, notes/assumptions/8.md). -/
def Obligations.AccessIsRoutedByBase : Prop :=
  ∀ (s : State) (w : Bool) (size : Size) (wdata : Word) (rest : List Input), s.rstN = true →
    (∀ off : Off, s.inputs = .access w size (Config.base + off.toNat) wdata :: rest →
      step s = exec (decode (transactionWord w size off (if w then wdata else 0))) { s with inputs := rest }) ∧
    (∀ addr : Nat, addr < Config.base ∨ Config.base + 0xFF < addr → s.inputs = .access w size addr wdata :: rest →
      step s = .fault (.notRouted addr)) ∧
    256 ∣ Config.base

/-! ## Invariants and whole-machine rules -/

/-- O43. The state after reset meets the invariants of 10_state.md R45 and those on the key elements. -/
def Obligations.ResetMeetsInvariants : Prop := State.reset.Inv ∧ State.reset.eng.KeyInv

/-- O44. 10_state.md R45: every step from a state that meets the invariants leads to one that does. -/
def Obligations.StepKeepsRegisterInvariants : Prop :=
  ∀ s t : State, s.Inv → step s = .next t → t.Inv

/-- O45. 10_state.md R39 to R41 and 40_key.md R109: in LOADING the streamed elements are those of some key, in READY K0 is the
HMAC key block of some key, and K0 is zero otherwise; every step keeps this. -/
def Obligations.StepKeepsKeyInvariants : Prop :=
  ∀ s t : State, s.Inv → s.eng.KeyInv → step s = .next t → t.eng.KeyInv

/-- O46. 10_state.md R46: the five result elements change only at a HOTP completion step and at reset. -/
def Obligations.ResultsChangeOnlyAtCompletion : Prop :=
  ∀ s t : State, step s = .next t →
    t.eng.results = s.eng.results ∨
    (s.engineTurnNow = true ∧ s.eng.busy = true ∧ s.eng.job = .hotp ∧ t.eng = s.eng.engineStep) ∨
    t.eng = Engine.reset

/-- O47. The transitions of 40_key.md R101: KSTATE changes only at a KEY_CLEAR completion (to LOADING), at a KEY_FINAL
completion (from LOADING to READY) and at reset (to EMPTY). -/
def Obligations.KeyStateTransitions : Prop :=
  ∀ s t : State, s.eng.KeyInv → step s = .next t →
    t.eng.kstate = s.eng.kstate ∨
    (s.engineTurnNow = true ∧ s.eng.busy = true ∧ s.eng.job = .keyClear ∧ t.eng.kstate = .loading) ∨
    (s.engineTurnNow = true ∧ s.eng.busy = true ∧ s.eng.job = .keyFinal ∧ s.eng.kstate = .loading ∧
      t.eng.kstate = .ready) ∨
    (t.eng = Engine.reset ∧ t.eng.kstate = .empty)

/-- O48. 20_memory.md R65, the sentences on COUNTER and KLEN: COUNTER changes only by host writes and reset, KLEN only by key
writes, KEY_CLEAR and reset. -/
def Obligations.CounterAndKeyLengthWriters : Prop :=
  ∀ s t : State, step s = .next t →
    (t.eng.counter = s.eng.counter ∨ t.eng = Engine.reset ∨
      ∃ tw d, s.transactionNow = some tw ∧ (decode tw = .wrCounterHi d ∨ decode tw = .wrCounterLo d)) ∧
    (t.eng.klen = s.eng.klen ∨ t.eng = Engine.reset ∨
      (s.engineTurnNow = true ∧ s.eng.busy = true ∧ s.eng.job = .keyClear ∧ t.eng.klen = 0) ∨
      (∃ tw d, s.transactionNow = some tw ∧ decode tw = .wrKeyWord d ∧ t.eng.klen = s.eng.klen + 4) ∨
      (∃ tw d, s.transactionNow = some tw ∧ decode tw = .wrKeyByte d ∧ t.eng.klen = s.eng.klen + 1))

/-- O49. 40_key.md R112: two machines that differ only in their key material answer every step alike, and still differ only
there, unless the step is the completion of a HOTP job, whose results are an HMAC under the key. -/
def Obligations.KeyMaterialIsNotVisible : Prop :=
  ∀ s₁ s₂ t₁ : State, s₁.inputs = s₂.inputs → s₁.rstN = s₂.rstN → s₁.resp = s₂.resp →
    s₁.eng.withoutKey = s₂.eng.withoutKey →
    ¬ (s₁.engineTurnNow = true ∧ s₁.eng.busy = true ∧ s₁.eng.job = .hotp) →
    step s₁ = .next t₁ →
    ∃ t₂ : State, step s₂ = .next t₂ ∧ t₁.resp = t₂.resp ∧ t₁.rstN = t₂.rstN ∧ t₁.inputs = t₂.inputs ∧
      t₁.eng.withoutKey = t₂.eng.withoutKey ∧ t₁.irq = t₂.irq

/-! ## The key, end to end -/

/-- O50. 40_key.md R100 and R102 with 10_state.md R39 and R40: the completion of KEY_CLEAR holds the empty key, and every
accepted key write appends its bytes to the key the record holds. -/
def Obligations.KeyWritesExtendTheKey : Prop :=
  (∀ e : Engine, e.busy = true → e.job = .keyClear → e.engineStep.Loading []) ∧
  (∀ (s : State) (key : List Byte) (d : Word), s.eng.Loading key → s.eng.busy = false →
    key.length + 4 ≤ 2 ^ 61 - 1 →
    ∃ t : State, exec (.wrKeyWord d) s = .next t ∧
      t.eng.Loading (key ++ [d.extractLsb' 24 8, d.extractLsb' 16 8, d.extractLsb' 8 8, d.extractLsb' 0 8])) ∧
  (∀ (s : State) (key : List Byte) (d : Word), s.eng.Loading key → s.eng.busy = false →
    key.length + 1 ≤ 2 ^ 61 - 1 →
    ∃ t : State, exec (.wrKeyByte d) s = .next t ∧ t.eng.Loading (key ++ [d.extractLsb' 0 8]))

/-- O51. 40_key.md R109: the completion of KEY_FINAL forms the HMAC key block of the key, whatever its length: the streamed
hash is SHA-1 of the whole key. -/
def Obligations.KeyFinalFormsHmacKeyBlock : Prop :=
  ∀ (e : Engine) (key : List Byte), e.Loading key → e.busy = true → e.job = .keyFinal → e.engineStep.Ready key

/-- O52. 40_key.md R110: the length classes of the key. -/
def Obligations.KeyBlockByLengthClass : Prop :=
  ∀ (e : Engine) (key : List Byte), e.Loading key → e.busy = true → e.job = .keyFinal →
    (key.length = 0 → e.engineStep.k0 = Vector.replicate 64 0) ∧
    (1 ≤ key.length → key.length ≤ 64 → e.engineStep.k0.toList = key ++ zeros (64 - key.length)) ∧
    (64 < key.length → e.engineStep.k0.toList = (sha1 key).toList ++ zeros 44) ∧
    (key.length % 64 ≤ 55 → (key.drop (64 * (key.length / 64)) ++ padTail key.length).length = 64) ∧
    (56 ≤ key.length % 64 → (key.drop (64 * (key.length / 64)) ++ padTail key.length).length = 128)

/-- O53. 10_state.md R48: a READY key stays until a KEY_CLEAR completion or a reset. -/
def Obligations.ReadyKeyPersists : Prop :=
  ∀ (s t : State) (key : List Byte), s.eng.KeyInv → s.eng.Ready key → step s = .next t →
    t.eng.Ready key ∨ t.eng = Engine.reset ∨
      (s.engineTurnNow = true ∧ s.eng.busy = true ∧ s.eng.job = .keyClear)

/-- O54. 70_reset_and_hazards.md R350 and 10_state.md R42: whatever transactions a host issues while a HOTP job is pending,
SOFT_RESET apart, the job's results are those of the operands latched at issue. -/
def Obligations.PendingHotpIgnoresHostTransactions : Prop :=
  ∀ (s : State) (ts : List TWord), s.rstN = true → s.eng.busy = true → s.eng.job = .hotp →
    (∀ tw ∈ ts, decode tw ≠ .cmdSoftReset) → s.inputs = ts.map .transaction ++ [.engineTurn] →
    ∃ t : State, Host.Core.run Sys2Proof.core (ts.length + 1) s = .next t ∧ t.inputs = [] ∧
      t.eng.results = s.eng.engineStep.results ∧ t.eng.busy = false ∧ t.eng.done = true ∧
      t.eng.kstate = s.eng.kstate ∧ t.eng.k0 = s.eng.k0

/-- O55. 42_hotp.md R180, R181, R187 with 41_sha1_hmac.md R153, end to end: with a key loaded and a legal digit count, CMD.HOTP
and the engine's turn, with any transactions but SOFT_RESET between them, leave the digest HMAC-SHA1 of the counter under the
key, its truncation, and the truncation modulo 10^DIGITS, with COUNTER and DIGITS as they were at issue. -/
def Obligations.HotpComputesPasswordOfLoadedKey : Prop :=
  ∀ (s : State) (key : List Byte) (ts : List TWord), s.rstN = true → s.eng.Ready key → s.eng.busy = false →
    1 ≤ s.eng.digits.toNat → s.eng.digits.toNat ≤ 9 → (∀ tw ∈ ts, decode tw ≠ .cmdSoftReset) →
    s.inputs = .transaction 0x61000000003 :: (ts.map .transaction ++ [.engineTurn]) →
    ∃ t : State, Host.Core.run Sys2Proof.core (ts.length + 2) s = .next t ∧
      t.eng.digest = hmacSha1 key (be64 s.eng.counter) ∧
      t.eng.trunc = truncate (hmacSha1 key (be64 s.eng.counter)) ∧
      t.eng.otp.toNat = t.eng.trunc.toNat % 10 ^ s.eng.digits.toNat ∧
      t.eng.bcd = bcdOf t.eng.otp ∧ t.eng.busy = false ∧ t.eng.done = true ∧ t.eng.Ready key

/-- O56. 70_reset_and_hazards.md R351: in a run of transactions and engine's turns that comes to its end, a pending job is
completed: after the last input one more step leaves BUSY = 0 (that step is the model's choice, notes/assumptions/2.md). -/
def Obligations.PendingJobCompletesWhenHostIsIdle : Prop :=
  ∀ s : State, s.rstN = true → (∀ i ∈ s.inputs, i.isOrdinary = true) →
    ∃ t : State, Host.Core.run Sys2Proof.core (s.inputs.length + 1) s = .next t ∧ t.inputs = [] ∧
      t.rstN = true ∧ t.eng.busy = false

/-! ## Host software -/

/-- O57. 42_hotp.md R186, R189, R190: the Password has exactly d characters, each the ASCII digit of its BCD digit; a
non-positive interval is refused; the counters of a sequence are those of its times, as exact natural numbers. The spec
gives a counter past 2^64 - 1 no meaning, and that the functions return its number is the model's choice
(notes/assumptions/19.md). -/
def Obligations.HostPasswordAndCounters : Prop :=
  (∀ (d : Nat) (bcd : Vector (BitVec 4) 9), (password d bcd).length = d) ∧
  (∀ (d k : Nat) (bcd : Vector (BitVec 4) 9), d ≤ 9 → k < d → (∀ i : Fin 9, bcd[i].toNat ≤ 9) →
    ((password d bcd).getD k 0).toNat = 0x30 + (bcd.toList.getD (d - 1 - k) 0).toNat) ∧
  (∀ (t n : Nat) (iv : Int), iv ≤ 0 → totpCounter t iv = none ∧ sequenceCounters t iv n = none) ∧
  (∀ (t n i : Nat) (iv : Int), 0 < iv → i < n →
    (sequenceCounters t iv n).map (·.getD i 0) = totpCounter (t + i * iv.toNat) iv)
end

