-- ==== Sys2Proof/Laws/Decode.lean ====
section
/-! SUPPORT. The fields of a transaction word: each field of the word built from four fields is the field, and a word is the
one built from its fields. The register map and its inverse. -/

namespace Sys2Proof

/-- A transaction word as a number: the fields at the places R81 gives them. -/
theorem transactionWord_toNat (w : Bool) (size : Size) (off : Off) (data : Word) :
    (transactionWord w size off data).toNat =
      w.toNat * 2 ^ 42 + size.toNat * 2 ^ 40 + off.toNat * 2 ^ 32 + data.toNat := by
  have h1 : (transactionWord w size off data).toNat =
      (((w.toNat <<< 2 ||| size.toNat) <<< 8 ||| off.toNat) <<< 32 ||| data.toNat) := by
    refine (BitVec.toNat_append (BitVec.ofBool w ++ size ++ off) data).trans ?_
    rw [BitVec.toNat_append, BitVec.toNat_append, BitVec.toNat_ofBool]
  have := size.isLt
  have := off.isLt
  have := data.isLt
  rw [h1, ← Nat.shiftLeft_add_eq_or_of_lt data.isLt, ← Nat.shiftLeft_add_eq_or_of_lt off.isLt,
    ← Nat.shiftLeft_add_eq_or_of_lt size.isLt]
  simp only [Nat.shiftLeft_eq]
  omega

@[simp] theorem fieldData_transactionWord (w : Bool) (size : Size) (off : Off) (data : Word) :
    fieldData (transactionWord w size off data) = data := by
  apply BitVec.eq_of_toNat_eq
  simp only [fieldData, BitVec.extractLsb'_toNat, transactionWord_toNat, Nat.shiftRight_eq_div_pow]
  omega

@[simp] theorem fieldOff_transactionWord (w : Bool) (size : Size) (off : Off) (data : Word) :
    fieldOff (transactionWord w size off data) = off := by
  apply BitVec.eq_of_toNat_eq
  simp only [fieldOff, BitVec.extractLsb'_toNat, transactionWord_toNat, Nat.shiftRight_eq_div_pow]
  omega

@[simp] theorem fieldSize_transactionWord (w : Bool) (size : Size) (off : Off) (data : Word) :
    fieldSize (transactionWord w size off data) = size := by
  apply BitVec.eq_of_toNat_eq
  simp only [fieldSize, BitVec.extractLsb'_toNat, transactionWord_toNat, Nat.shiftRight_eq_div_pow]
  omega

@[simp] theorem fieldW_transactionWord (w : Bool) (size : Size) (off : Off) (data : Word) :
    fieldW (transactionWord w size off data) = w := by
  have h : (transactionWord w size off data).toNat / 2 ^ 42 = w.toNat := by
    rw [transactionWord_toNat]; omega
  simp only [fieldW, BitVec.getLsbD, Nat.testBit, Nat.shiftRight_eq_div_pow, h]
  cases w <;> rfl

/-- A transaction word is the one its fields build. -/
theorem transactionWord_fields (t : TWord) :
    transactionWord (fieldW t) (fieldSize t) (fieldOff t) (fieldData t) = t := by
  apply BitVec.eq_of_toNat_eq
  have hw : (fieldW t).toNat = t.toNat / 2 ^ 42 := by
    have h : t.toNat / 2 ^ 42 < 2 := by have := t.isLt; omega
    simp only [fieldW, BitVec.getLsbD, Nat.testBit, Nat.shiftRight_eq_div_pow]
    interval_cases t.toNat / 2 ^ 42 <;> rfl
  simp only [transactionWord_toNat, hw, fieldSize, fieldOff, fieldData, BitVec.extractLsb'_toNat,
    Nat.shiftRight_eq_div_pow]
  have := t.isLt
  omega

/-- Two transaction words are equal exactly when their fields are. -/
theorem transactionWord_inj (w w' : Bool) (size size' : Size) (off off' : Off) (data data' : Word) :
    transactionWord w size off data = transactionWord w' size' off' data' ↔
      w = w' ∧ size = size' ∧ off = off' ∧ data = data' := by
  constructor
  · intro h
    have h1 := congrArg fieldW h
    have h2 := congrArg fieldSize h
    have h3 := congrArg fieldOff h
    have h4 := congrArg fieldData h
    simp only [fieldW_transactionWord, fieldSize_transactionWord, fieldOff_transactionWord,
      fieldData_transactionWord] at h1 h2 h3 h4
    exact ⟨h1, h2, h3, h4⟩
  · rintro ⟨rfl, rfl, rfl, rfl⟩
    rfl

/-- The bitwise and of two transaction words is taken field by field. -/
theorem transactionWord_and (w w' : Bool) (size size' : Size) (off off' : Off) (data data' : Word) :
    transactionWord w size off data &&& transactionWord w' size' off' data' =
      transactionWord (w && w') (size &&& size') (off &&& off') (data &&& data') := by
  have h1 := BitVec.and_append (x₁ := BitVec.ofBool w ++ size ++ off)
    (x₂ := BitVec.ofBool w' ++ size' ++ off') (y₁ := data) (y₂ := data')
  refine h1.trans ?_
  rw [BitVec.and_append, BitVec.and_append]
  cases w <;> cases w' <;> rfl

/-- Whether a row of the opcode table matches, field by field. -/
theorem OpcodeRow.matchesWord_transactionWord (r : OpcodeRow) (w : Bool) (size : Size) (off : Off) (data : Word) :
    r.matchesWord (transactionWord w size off data) = true ↔
      (w && fieldW r.mask) = fieldW r.bits ∧ size &&& fieldSize r.mask = fieldSize r.bits ∧
        off &&& fieldOff r.mask = fieldOff r.bits ∧ data &&& fieldData r.mask = fieldData r.bits := by
  unfold OpcodeRow.matchesWord
  rw [beq_iff_eq]
  conv_lhs => rw [← transactionWord_fields r.mask, ← transactionWord_fields r.bits]
  rw [transactionWord_and, transactionWord_inj]

/-- The register map and its inverse agree (10_state.md R23). -/
theorem regAt_eq_some (off : Off) (r : Reg) : regAt off = some r ↔ r.off = off := by
  revert off
  cases r <;> decide

/-- An aligned offset that names no register is a reserved one (R38). -/
theorem regAt_eq_none (off : Off) (h : off.toNat % 4 = 0) : regAt off = none ↔ reservedOffset off = true := by
  revert off
  decide

/-- The alignment rule of R63 by the two low bits. -/
theorem aligned_iff_bits (off : Off) : off.toNat % 4 = 0 ↔ off.getLsbD 0 = false ∧ off.getLsbD 1 = false := by
  revert off
  decide

/-- The decoder on the word built from four fields. -/
theorem decode_transactionWord (w : Bool) (size : Size) (off : Off) (data : Word) :
    decode (transactionWord w size off data) =
      match size.toNat with
      | 0 => .buserrSize0 w off data
      | 1 => .buserrSize1 w off data
      | 2 =>
        if off.getLsbD 0 then .buserrMisalignB0 w off data
        else if off.getLsbD 1 then .buserrMisalignB1 w off data
        else if w then decodeWrite off data
        else decodeRead off data
      | _ => .buserrSize3 w off data := by
  simp only [decode, fieldW_transactionWord, fieldOff_transactionWord, fieldData_transactionWord,
    fieldSize_transactionWord] <;> rfl

/-- The decoder on an aligned 32-bit write. -/
theorem decode_writeWord (off : Off) (data : Word) (h : off.toNat % 4 = 0) :
    decode (writeWord off data) = decodeWrite off data := by
  obtain ⟨h0, h1⟩ := (aligned_iff_bits off).1 h
  unfold writeWord
  rw [decode_transactionWord]
  simp only [h0, h1, Bool.false_eq_true, if_false]
  rfl

/-- The decoder on an aligned 32-bit read. -/
theorem decode_readWord (off : Off) (data : Word) (h : off.toNat % 4 = 0) :
    decode (readWord off data) = decodeRead off data := by
  obtain ⟨h0, h1⟩ := (aligned_iff_bits off).1 h
  unfold readWord
  rw [decode_transactionWord]
  simp only [h0, h1, Bool.false_eq_true, if_false]
  rfl

/-- The six ways a command word decodes (R83). -/
theorem decodeCommand_cases (d : Word) :
    (d = 0x0 ∧ decodeCommand d = .cmdNop) ∨ (d = 0x1 ∧ decodeCommand d = .cmdKeyClear) ∨
    (d = 0x2 ∧ decodeCommand d = .cmdKeyFinal) ∨ (d = 0x3 ∧ decodeCommand d = .cmdHotp) ∨
    (d = 0xF ∧ decodeCommand d = .cmdSoftReset) ∨
    (legalCommand d = false ∧ decodeCommand d = .cmdIllegal d) := by
  by_cases h : legalCommand d = true
  · simp only [legalCommand, Bool.or_eq_true, beq_iff_eq, or_assoc] at h
    rcases h with h | h | h | h | h <;> subst h <;> decide
  · have h' : legalCommand d = false := by simpa using h
    refine .inr (.inr (.inr (.inr (.inr ⟨h', ?_⟩))))
    have hn : ∀ n : Nat, n < 2 ^ 32 → d.toNat = n → d = BitVec.ofNat 32 n := by
      intro n hn hd
      apply BitVec.eq_of_toNat_eq
      rw [hd, BitVec.toNat_ofNat, Nat.mod_eq_of_lt hn]
    unfold decodeCommand
    split
    all_goals first
      | rfl
      | (rename_i hd
         have := hn _ (by decide) hd
         subst this
         simp [legalCommand] at h')

end Sys2Proof
end

