-- ==== Sys2Proof/Laws/State.lean ====
section
/-! SUPPORT. The fields each named update leaves and sets, so that no later proof unfolds one. -/

namespace Sys2Proof.Machine

@[simp] theorem State.respond_eng (r : Response) (s : State) : (s.respond r).eng = s.eng := rfl
@[simp] theorem State.respond_rstN (r : Response) (s : State) : (s.respond r).rstN = s.rstN := rfl
@[simp] theorem State.respond_resp (r : Response) (s : State) : (s.respond r).resp = some r := rfl
@[simp] theorem State.respond_inputs (r : Response) (s : State) : (s.respond r).inputs = s.inputs := rfl

@[simp] theorem placeTransaction_eng (t : TWord) (s : State) : (placeTransaction t s).eng = s.eng := rfl
@[simp] theorem placeTransaction_rstN (t : TWord) (s : State) : (placeTransaction t s).rstN = true := rfl
@[simp] theorem placeTransaction_resp (t : TWord) (s : State) : (placeTransaction t s).resp = s.resp := rfl
@[simp] theorem placeTransaction_inputs (t : TWord) (s : State) :
    (placeTransaction t s).inputs = .transaction t :: s.inputs := rfl

namespace Engine

/-- `raiseError` as one update: it can change only ERR and ERRCODE. -/
theorem raiseError_eq (c : ErrorCode) (e : Engine) :
    e.raiseError c = { e with err := true, errcode := if e.err then e.errcode else c.bits } := by
  unfold raiseError
  cases e with | mk => rename_i err _ _ _ _ _ _ _ _ _ _ _ _ _ _; cases err <;> rfl

@[simp] theorem raiseError_digits (c : ErrorCode) (e : Engine) : (e.raiseError c).digits = e.digits := by
  rw [raiseError_eq]
@[simp] theorem raiseError_doneIe (c : ErrorCode) (e : Engine) : (e.raiseError c).doneIe = e.doneIe := by
  rw [raiseError_eq]
@[simp] theorem raiseError_errIe (c : ErrorCode) (e : Engine) : (e.raiseError c).errIe = e.errIe := by
  rw [raiseError_eq]
@[simp] theorem raiseError_busy (c : ErrorCode) (e : Engine) : (e.raiseError c).busy = e.busy := by
  rw [raiseError_eq]
@[simp] theorem raiseError_kstate (c : ErrorCode) (e : Engine) : (e.raiseError c).kstate = e.kstate := by
  rw [raiseError_eq]
@[simp] theorem raiseError_done (c : ErrorCode) (e : Engine) : (e.raiseError c).done = e.done := by
  rw [raiseError_eq]
@[simp] theorem raiseError_err (c : ErrorCode) (e : Engine) : (e.raiseError c).err = true := by
  rw [raiseError_eq]
@[simp] theorem raiseError_errcode (c : ErrorCode) (e : Engine) :
    (e.raiseError c).errcode = if e.err then e.errcode else c.bits := by rw [raiseError_eq]
@[simp] theorem raiseError_klen (c : ErrorCode) (e : Engine) : (e.raiseError c).klen = e.klen := by
  rw [raiseError_eq]
@[simp] theorem raiseError_counter (c : ErrorCode) (e : Engine) : (e.raiseError c).counter = e.counter := by
  rw [raiseError_eq]
@[simp] theorem raiseError_digest (c : ErrorCode) (e : Engine) : (e.raiseError c).digest = e.digest := by
  rw [raiseError_eq]
@[simp] theorem raiseError_offset (c : ErrorCode) (e : Engine) : (e.raiseError c).offset = e.offset := by
  rw [raiseError_eq]
@[simp] theorem raiseError_trunc (c : ErrorCode) (e : Engine) : (e.raiseError c).trunc = e.trunc := by
  rw [raiseError_eq]
@[simp] theorem raiseError_otp (c : ErrorCode) (e : Engine) : (e.raiseError c).otp = e.otp := by
  rw [raiseError_eq]
@[simp] theorem raiseError_bcd (c : ErrorCode) (e : Engine) : (e.raiseError c).bcd = e.bcd := by
  rw [raiseError_eq]
@[simp] theorem raiseError_kbuf (c : ErrorCode) (e : Engine) : (e.raiseError c).kbuf = e.kbuf := by
  rw [raiseError_eq]
@[simp] theorem raiseError_kh (c : ErrorCode) (e : Engine) : (e.raiseError c).kh = e.kh := by
  rw [raiseError_eq]
@[simp] theorem raiseError_k0 (c : ErrorCode) (e : Engine) : (e.raiseError c).k0 = e.k0 := by
  rw [raiseError_eq]
@[simp] theorem raiseError_job (c : ErrorCode) (e : Engine) : (e.raiseError c).job = e.job := by
  rw [raiseError_eq]
@[simp] theorem raiseError_jobCounter (c : ErrorCode) (e : Engine) :
    (e.raiseError c).jobCounter = e.jobCounter := by rw [raiseError_eq]
@[simp] theorem raiseError_jobDigits (c : ErrorCode) (e : Engine) :
    (e.raiseError c).jobDigits = e.jobDigits := by rw [raiseError_eq]

/-- Starting a job as one update. -/
theorem startJob_eq (j : Job) (e : Engine) : e.startJob j = { e with job := j, busy := true } := rfl

@[simp] theorem startJob_digits (j : Job) (e : Engine) : (e.startJob j).digits = e.digits := rfl
@[simp] theorem startJob_doneIe (j : Job) (e : Engine) : (e.startJob j).doneIe = e.doneIe := rfl
@[simp] theorem startJob_errIe (j : Job) (e : Engine) : (e.startJob j).errIe = e.errIe := rfl
@[simp] theorem startJob_kstate (j : Job) (e : Engine) : (e.startJob j).kstate = e.kstate := rfl
@[simp] theorem startJob_done (j : Job) (e : Engine) : (e.startJob j).done = e.done := rfl
@[simp] theorem startJob_err (j : Job) (e : Engine) : (e.startJob j).err = e.err := rfl
@[simp] theorem startJob_errcode (j : Job) (e : Engine) : (e.startJob j).errcode = e.errcode := rfl
@[simp] theorem startJob_klen (j : Job) (e : Engine) : (e.startJob j).klen = e.klen := rfl
@[simp] theorem startJob_counter (j : Job) (e : Engine) : (e.startJob j).counter = e.counter := rfl
@[simp] theorem startJob_digest (j : Job) (e : Engine) : (e.startJob j).digest = e.digest := rfl
@[simp] theorem startJob_offset (j : Job) (e : Engine) : (e.startJob j).offset = e.offset := rfl
@[simp] theorem startJob_trunc (j : Job) (e : Engine) : (e.startJob j).trunc = e.trunc := rfl
@[simp] theorem startJob_otp (j : Job) (e : Engine) : (e.startJob j).otp = e.otp := rfl
@[simp] theorem startJob_bcd (j : Job) (e : Engine) : (e.startJob j).bcd = e.bcd := rfl
@[simp] theorem startJob_kbuf (j : Job) (e : Engine) : (e.startJob j).kbuf = e.kbuf := rfl
@[simp] theorem startJob_kh (j : Job) (e : Engine) : (e.startJob j).kh = e.kh := rfl
@[simp] theorem startJob_k0 (j : Job) (e : Engine) : (e.startJob j).k0 = e.k0 := rfl
@[simp] theorem startJob_jobCounter (j : Job) (e : Engine) : (e.startJob j).jobCounter = e.jobCounter := rfl
@[simp] theorem startJob_jobDigits (j : Job) (e : Engine) : (e.startJob j).jobDigits = e.jobDigits := rfl
@[simp] theorem startJob_job (j : Job) (e : Engine) : (e.startJob j).job = j := rfl
@[simp] theorem startJob_busy (j : Job) (e : Engine) : (e.startJob j).busy = true := rfl

/-- The common ending of a job as one update. -/
theorem finishJob_eq (e : Engine) : e.finishJob = { e with job := .none, busy := false, done := true } := rfl

@[simp] theorem finishJob_job (e : Engine) : e.finishJob.job = .none := rfl
@[simp] theorem finishJob_busy (e : Engine) : e.finishJob.busy = false := rfl
@[simp] theorem finishJob_done (e : Engine) : e.finishJob.done = true := rfl
@[simp] theorem finishJob_kstate (e : Engine) : e.finishJob.kstate = e.kstate := rfl
@[simp] theorem finishJob_klen (e : Engine) : e.finishJob.klen = e.klen := rfl
@[simp] theorem finishJob_kbuf (e : Engine) : e.finishJob.kbuf = e.kbuf := rfl
@[simp] theorem finishJob_kh (e : Engine) : e.finishJob.kh = e.kh := rfl
@[simp] theorem finishJob_k0 (e : Engine) : e.finishJob.k0 = e.k0 := rfl
@[simp] theorem finishJob_digits (e : Engine) : e.finishJob.digits = e.digits := rfl
@[simp] theorem finishJob_doneIe (e : Engine) : e.finishJob.doneIe = e.doneIe := rfl
@[simp] theorem finishJob_errIe (e : Engine) : e.finishJob.errIe = e.errIe := rfl
@[simp] theorem finishJob_err (e : Engine) : e.finishJob.err = e.err := rfl
@[simp] theorem finishJob_errcode (e : Engine) : e.finishJob.errcode = e.errcode := rfl
@[simp] theorem finishJob_counter (e : Engine) : e.finishJob.counter = e.counter := rfl
@[simp] theorem finishJob_digest (e : Engine) : e.finishJob.digest = e.digest := rfl
@[simp] theorem finishJob_offset (e : Engine) : e.finishJob.offset = e.offset := rfl
@[simp] theorem finishJob_trunc (e : Engine) : e.finishJob.trunc = e.trunc := rfl
@[simp] theorem finishJob_otp (e : Engine) : e.finishJob.otp = e.otp := rfl
@[simp] theorem finishJob_bcd (e : Engine) : e.finishJob.bcd = e.bcd := rfl
@[simp] theorem finishJob_jobCounter (e : Engine) : e.finishJob.jobCounter = e.jobCounter := rfl
@[simp] theorem finishJob_jobDigits (e : Engine) : e.finishJob.jobDigits = e.jobDigits := rfl

/-! ### The completions: the fields each leaves as they are -/

@[simp] theorem keyClearComplete_digits (e : Engine) : e.keyClearComplete.digits = e.digits := by simp only [keyClearComplete]
@[simp] theorem keyClearComplete_doneIe (e : Engine) : e.keyClearComplete.doneIe = e.doneIe := by simp only [keyClearComplete]
@[simp] theorem keyClearComplete_errIe (e : Engine) : e.keyClearComplete.errIe = e.errIe := by simp only [keyClearComplete]
@[simp] theorem keyClearComplete_busy (e : Engine) : e.keyClearComplete.busy = e.busy := by simp only [keyClearComplete]
@[simp] theorem keyClearComplete_done (e : Engine) : e.keyClearComplete.done = e.done := by simp only [keyClearComplete]
@[simp] theorem keyClearComplete_err (e : Engine) : e.keyClearComplete.err = e.err := by simp only [keyClearComplete]
@[simp] theorem keyClearComplete_errcode (e : Engine) : e.keyClearComplete.errcode = e.errcode := by simp only [keyClearComplete]
@[simp] theorem keyClearComplete_counter (e : Engine) : e.keyClearComplete.counter = e.counter := by simp only [keyClearComplete]
@[simp] theorem keyClearComplete_digest (e : Engine) : e.keyClearComplete.digest = e.digest := by simp only [keyClearComplete]
@[simp] theorem keyClearComplete_offset (e : Engine) : e.keyClearComplete.offset = e.offset := by simp only [keyClearComplete]
@[simp] theorem keyClearComplete_trunc (e : Engine) : e.keyClearComplete.trunc = e.trunc := by simp only [keyClearComplete]
@[simp] theorem keyClearComplete_otp (e : Engine) : e.keyClearComplete.otp = e.otp := by simp only [keyClearComplete]
@[simp] theorem keyClearComplete_bcd (e : Engine) : e.keyClearComplete.bcd = e.bcd := by simp only [keyClearComplete]
@[simp] theorem keyClearComplete_job (e : Engine) : e.keyClearComplete.job = e.job := by simp only [keyClearComplete]
@[simp] theorem keyClearComplete_jobCounter (e : Engine) : e.keyClearComplete.jobCounter = e.jobCounter := by simp only [keyClearComplete]
@[simp] theorem keyClearComplete_jobDigits (e : Engine) : e.keyClearComplete.jobDigits = e.jobDigits := by simp only [keyClearComplete]

@[simp] theorem keyFinalComplete_digits (e : Engine) : e.keyFinalComplete.digits = e.digits := by simp only [keyFinalComplete]
@[simp] theorem keyFinalComplete_doneIe (e : Engine) : e.keyFinalComplete.doneIe = e.doneIe := by simp only [keyFinalComplete]
@[simp] theorem keyFinalComplete_errIe (e : Engine) : e.keyFinalComplete.errIe = e.errIe := by simp only [keyFinalComplete]
@[simp] theorem keyFinalComplete_busy (e : Engine) : e.keyFinalComplete.busy = e.busy := by simp only [keyFinalComplete]
@[simp] theorem keyFinalComplete_done (e : Engine) : e.keyFinalComplete.done = e.done := by simp only [keyFinalComplete]
@[simp] theorem keyFinalComplete_err (e : Engine) : e.keyFinalComplete.err = e.err := by simp only [keyFinalComplete]
@[simp] theorem keyFinalComplete_errcode (e : Engine) : e.keyFinalComplete.errcode = e.errcode := by simp only [keyFinalComplete]
@[simp] theorem keyFinalComplete_klen (e : Engine) : e.keyFinalComplete.klen = e.klen := by simp only [keyFinalComplete]
@[simp] theorem keyFinalComplete_counter (e : Engine) : e.keyFinalComplete.counter = e.counter := by simp only [keyFinalComplete]
@[simp] theorem keyFinalComplete_digest (e : Engine) : e.keyFinalComplete.digest = e.digest := by simp only [keyFinalComplete]
@[simp] theorem keyFinalComplete_offset (e : Engine) : e.keyFinalComplete.offset = e.offset := by simp only [keyFinalComplete]
@[simp] theorem keyFinalComplete_trunc (e : Engine) : e.keyFinalComplete.trunc = e.trunc := by simp only [keyFinalComplete]
@[simp] theorem keyFinalComplete_otp (e : Engine) : e.keyFinalComplete.otp = e.otp := by simp only [keyFinalComplete]
@[simp] theorem keyFinalComplete_bcd (e : Engine) : e.keyFinalComplete.bcd = e.bcd := by simp only [keyFinalComplete]
@[simp] theorem keyFinalComplete_job (e : Engine) : e.keyFinalComplete.job = e.job := by simp only [keyFinalComplete]
@[simp] theorem keyFinalComplete_jobCounter (e : Engine) : e.keyFinalComplete.jobCounter = e.jobCounter := by simp only [keyFinalComplete]
@[simp] theorem keyFinalComplete_jobDigits (e : Engine) : e.keyFinalComplete.jobDigits = e.jobDigits := by simp only [keyFinalComplete]

@[simp] theorem hotpComplete_digits (e : Engine) : e.hotpComplete.digits = e.digits := by simp only [hotpComplete, withResults]
@[simp] theorem hotpComplete_doneIe (e : Engine) : e.hotpComplete.doneIe = e.doneIe := by simp only [hotpComplete, withResults]
@[simp] theorem hotpComplete_errIe (e : Engine) : e.hotpComplete.errIe = e.errIe := by simp only [hotpComplete, withResults]
@[simp] theorem hotpComplete_busy (e : Engine) : e.hotpComplete.busy = e.busy := by simp only [hotpComplete, withResults]
@[simp] theorem hotpComplete_kstate (e : Engine) : e.hotpComplete.kstate = e.kstate := by simp only [hotpComplete, withResults]
@[simp] theorem hotpComplete_done (e : Engine) : e.hotpComplete.done = e.done := by simp only [hotpComplete, withResults]
@[simp] theorem hotpComplete_err (e : Engine) : e.hotpComplete.err = e.err := by simp only [hotpComplete, withResults]
@[simp] theorem hotpComplete_errcode (e : Engine) : e.hotpComplete.errcode = e.errcode := by simp only [hotpComplete, withResults]
@[simp] theorem hotpComplete_klen (e : Engine) : e.hotpComplete.klen = e.klen := by simp only [hotpComplete, withResults]
@[simp] theorem hotpComplete_counter (e : Engine) : e.hotpComplete.counter = e.counter := by simp only [hotpComplete, withResults]
@[simp] theorem hotpComplete_kbuf (e : Engine) : e.hotpComplete.kbuf = e.kbuf := by simp only [hotpComplete, withResults]
@[simp] theorem hotpComplete_kh (e : Engine) : e.hotpComplete.kh = e.kh := by simp only [hotpComplete, withResults]
@[simp] theorem hotpComplete_k0 (e : Engine) : e.hotpComplete.k0 = e.k0 := by simp only [hotpComplete, withResults]
@[simp] theorem hotpComplete_job (e : Engine) : e.hotpComplete.job = e.job := by simp only [hotpComplete, withResults]
@[simp] theorem hotpComplete_jobCounter (e : Engine) : e.hotpComplete.jobCounter = e.jobCounter := by simp only [hotpComplete, withResults]
@[simp] theorem hotpComplete_jobDigits (e : Engine) : e.hotpComplete.jobDigits = e.jobDigits := by simp only [hotpComplete, withResults]

@[simp] theorem keyClearComplete_kstate (e : Engine) : e.keyClearComplete.kstate = .loading := rfl
@[simp] theorem keyClearComplete_klen (e : Engine) : e.keyClearComplete.klen = 0 := rfl
@[simp] theorem keyClearComplete_kbuf (e : Engine) : e.keyClearComplete.kbuf = Vector.replicate 64 0 := rfl
@[simp] theorem keyClearComplete_kh (e : Engine) : e.keyClearComplete.kh = sha1Init := rfl
@[simp] theorem keyClearComplete_k0 (e : Engine) : e.keyClearComplete.k0 = Vector.replicate 64 0 := rfl
@[simp] theorem keyFinalComplete_kstate (e : Engine) : e.keyFinalComplete.kstate = .ready := rfl
@[simp] theorem keyFinalComplete_kbuf (e : Engine) : e.keyFinalComplete.kbuf = Vector.replicate 64 0 := rfl
@[simp] theorem keyFinalComplete_kh (e : Engine) : e.keyFinalComplete.kh = Vector.replicate 5 0 := rfl
@[simp] theorem keyFinalComplete_k0 (e : Engine) : e.keyFinalComplete.k0 = e.finalK0 := rfl

/-- The completion of each job kind, for a record that has it pending. -/
theorem completeJob_none {e : Engine} (h : e.job = .none) : e.completeJob = e := by simp only [completeJob, h]
theorem completeJob_keyClear {e : Engine} (h : e.job = .keyClear) : e.completeJob = e.keyClearComplete := by
  simp only [completeJob, h]
theorem completeJob_keyFinal {e : Engine} (h : e.job = .keyFinal) : e.completeJob = e.keyFinalComplete := by
  simp only [completeJob, h]
theorem completeJob_hotp {e : Engine} (h : e.job = .hotp) : e.completeJob = e.hotpComplete := by
  simp only [completeJob, h]

/-- `appendByte` can change only KBUF, KLEN and KH (R102). -/
theorem appendByte_frame (e : Engine) (b : Byte) :
    e.appendByte b =
      { e with kbuf := (e.appendByte b).kbuf, klen := e.klen + 1, kh := (e.appendByte b).kh } := rfl

/-- KBUF after `appendByte` (R102). -/
theorem appendByte_kbuf (e : Engine) (b : Byte) :
    (e.appendByte b).kbuf =
      (if e.klen.toNat % 64 = 0 ∧ 0 < e.klen.toNat then Vector.replicate 64 0 else e.kbuf).set (e.klen.toNat % 64) b
        (Nat.mod_lt _ (by decide)) := rfl

/-- KH after `appendByte` (R102). -/
theorem appendByte_kh (e : Engine) (b : Byte) :
    (e.appendByte b).kh =
      if (e.klen + 1).toNat % 64 = 0 then compress e.kh (e.appendByte b).kbuf else e.kh := rfl

@[simp] theorem appendByte_klen (e : Engine) (b : Byte) : (e.appendByte b).klen = e.klen + 1 := rfl
@[simp] theorem appendByte_kstate (e : Engine) (b : Byte) : (e.appendByte b).kstate = e.kstate := rfl
@[simp] theorem appendByte_busy (e : Engine) (b : Byte) : (e.appendByte b).busy = e.busy := rfl
@[simp] theorem appendByte_job (e : Engine) (b : Byte) : (e.appendByte b).job = e.job := rfl
@[simp] theorem appendByte_k0 (e : Engine) (b : Byte) : (e.appendByte b).k0 = e.k0 := rfl

@[simp] theorem appendBytes_nil (e : Engine) : e.appendBytes [] = e := rfl
@[simp] theorem appendBytes_cons (e : Engine) (b : Byte) (bs : List Byte) :
    e.appendBytes (b :: bs) = (e.appendByte b).appendBytes bs := rfl

/-- A whole key write can change only KBUF, KLEN and KH (R102), and KLEN counts its bytes. -/
theorem appendBytes_frame (e : Engine) (bs : List Byte) :
    e.appendBytes bs =
      { e with
        kbuf := (e.appendBytes bs).kbuf
        klen := e.klen + BitVec.ofNat 64 bs.length
        kh := (e.appendBytes bs).kh } := by
  induction bs generalizing e with
  | nil => simp
  | cons b bs ih =>
    rw [appendBytes_cons, ih, appendByte_frame]
    have hk : e.klen + 1 + BitVec.ofNat 64 bs.length = e.klen + BitVec.ofNat 64 (b :: bs).length := by
      rw [BitVec.add_assoc]
      congr 1
      simp only [List.length_cons]
      rw [BitVec.add_comm]
      exact (BitVec.ofNat_add ..).symm
    simp only [hk]

/-- What a key write does, in one of four ways (R102). -/
theorem keyAppend_cases (e : Engine) (bs : List Byte) :
    (e.busy = true ∧ e.keyAppend bs = e.raiseError .busy) ∨
    (e.busy = false ∧ e.kstate ≠ .loading ∧ e.keyAppend bs = e.raiseError .keyState) ∨
    (e.busy = false ∧ e.kstate = .loading ∧ Config.keyLenMax < e.klen.toNat + bs.length ∧
      e.keyAppend bs = e.raiseError .keyLen) ∨
    (e.busy = false ∧ e.kstate = .loading ∧ e.klen.toNat + bs.length ≤ Config.keyLenMax ∧
      e.keyAppend bs = e.appendBytes bs) := by
  unfold keyAppend
  by_cases hb : e.busy = true
  · simp [hb]
  · by_cases hk : e.kstate = .loading
    · by_cases hl : Config.keyLenMax < e.klen.toNat + bs.length
      · simp [hb, hk, hl]
      · simp [hb, hk, hl]; omega
    · simp [hb, hk]

/-- What the engine's turn does to the record: nothing when idle, else the job's completion and the common ending. -/
theorem engineStep_cases (e : Engine) :
    (e.busy = false ∧ e.engineStep = e) ∨ (e.busy = true ∧ e.engineStep = e.completeJob.finishJob) := by
  unfold engineStep
  cases e.busy <;> simp

end Engine

end Sys2Proof.Machine
end

