-- ==== Sys2Proof/Laws/Exec.lean ====
section
/-! SUPPORT. Everything one instruction can do, and everything one step can do, said once. A meaning always answers a next
state: it leaves a record (`engineAfter`) and a response (`responseOf`), and touches neither RST_N nor the inputs. -/

namespace Sys2Proof.Machine

/-- The record an instruction leaves. -/
def engineAfter (i : Instr) (e : Engine) : Engine :=
  match i with
  | .cmdNop => if e.busy then e.raiseError .busy else e
  | .cmdKeyClear => if e.busy then e.raiseError .busy else e.startJob .keyClear
  | .cmdKeyFinal =>
    if e.busy then e.raiseError .busy
    else if e.kstate ≠ .loading then e.raiseError .keyState else e.startJob .keyFinal
  | .cmdHotp =>
    if e.busy then e.raiseError .busy
    else if e.kstate ≠ .ready then e.raiseError .noKey
    else if !legalDigits e.digits then e.raiseError .digits
    else { e with jobCounter := e.counter, jobDigits := e.digits, job := .hotp, busy := true }
  | .cmdSoftReset => Engine.reset
  | .cmdIllegal _ => if e.busy then e.raiseError .busy else e.raiseError .badCmd
  | .wrKeyWord data => e.keyAppend (operandKeyWord data)
  | .wrKeyByte data => e.keyAppend (operandKeyByte data)
  | .wrCtrl data =>
    { e with digits := operandDigits data, doneIe := operandDoneIe data, errIe := operandErrIe data }
  | .wrStatus data =>
    { e with
      done := if operandClearDone data then false else e.done
      err := if operandClearErr data then false else e.err
      errcode := if operandClearErr data then 0 else e.errcode }
  | .wrCounterHi data => { e with counter := joinHalves data (lowHalf e.counter) }
  | .wrCounterLo data => { e with counter := joinHalves (highHalf e.counter) data }
  | .wrId _ | .wrVersion _ | .wrKeyLenLo _ | .wrKeyLenHi _ | .wrDigest0 _ | .wrDigest1 _ | .wrDigest2 _ | .wrDigest3 _
  | .wrDigest4 _ | .wrOffset _ | .wrTrunc _ | .wrOtp _ | .wrOtpBcdLo _ | .wrOtpBcdHi _ | .wrRsvd _ _ => e
  | .rdId _ | .rdVersion _ | .rdCtrl _ | .rdStatus _ | .rdCmd _ | .rdKeyWord _ | .rdKeyByte _ | .rdKeyLenLo _
  | .rdKeyLenHi _ | .rdCounterHi _ | .rdCounterLo _ | .rdDigest0 _ | .rdDigest1 _ | .rdDigest2 _ | .rdDigest3 _
  | .rdDigest4 _ | .rdOffset _ | .rdTrunc _ | .rdOtp _ | .rdOtpBcdLo _ | .rdOtpBcdHi _ | .rdRsvd _ _ => e
  | .buserrSize0 _ _ _ | .buserrSize1 _ _ _ | .buserrSize3 _ _ _
  | .buserrMisalignB0 _ _ _ | .buserrMisalignB1 _ _ _ => e

/-- The response an instruction gets. -/
def responseOf (i : Instr) (e : Engine) : Response :=
  match i with
  | .buserrSize0 w off _ => .busError off w 0
  | .buserrSize1 w off _ => .busError off w 1
  | .buserrSize3 w off _ => .busError off w 3
  | .buserrMisalignB0 w off _ | .buserrMisalignB1 w off _ => .busError off w 2
  | .rdId _ => .data (e.readReg .id)
  | .rdVersion _ => .data (e.readReg .version)
  | .rdCtrl _ => .data (e.readReg .ctrl)
  | .rdStatus _ => .data (e.readReg .status)
  | .rdCmd _ => .data (e.readReg .cmd)
  | .rdKeyWord _ => .data (e.readReg .keyWord)
  | .rdKeyByte _ => .data (e.readReg .keyByte)
  | .rdKeyLenLo _ => .data (e.readReg .keyLenLo)
  | .rdKeyLenHi _ => .data (e.readReg .keyLenHi)
  | .rdCounterHi _ => .data (e.readReg .counterHi)
  | .rdCounterLo _ => .data (e.readReg .counterLo)
  | .rdDigest0 _ => .data (e.readReg .digest0)
  | .rdDigest1 _ => .data (e.readReg .digest1)
  | .rdDigest2 _ => .data (e.readReg .digest2)
  | .rdDigest3 _ => .data (e.readReg .digest3)
  | .rdDigest4 _ => .data (e.readReg .digest4)
  | .rdOffset _ => .data (e.readReg .offset)
  | .rdTrunc _ => .data (e.readReg .trunc)
  | .rdOtp _ => .data (e.readReg .otp)
  | .rdOtpBcdLo _ => .data (e.readReg .otpBcdLo)
  | .rdOtpBcdHi _ => .data (e.readReg .otpBcdHi)
  | .rdRsvd _ _ => .data 0
  | .cmdNop | .cmdKeyClear | .cmdKeyFinal | .cmdHotp | .cmdSoftReset | .cmdIllegal _ => .okay
  | .wrCtrl _ | .wrStatus _ | .wrKeyWord _ | .wrKeyByte _ | .wrCounterHi _ | .wrCounterLo _ => .okay
  | .wrId _ | .wrVersion _ | .wrKeyLenLo _ | .wrKeyLenHi _ | .wrDigest0 _ | .wrDigest1 _ | .wrDigest2 _ | .wrDigest3 _
  | .wrDigest4 _ | .wrOffset _ | .wrTrunc _ | .wrOtp _ | .wrOtpBcdLo _ | .wrOtpBcdHi _ | .wrRsvd _ _ => .okay

/-- What `exec` answers, for every instruction in every state. -/
theorem exec_eq (i : Instr) (s : State) :
    exec i s = .next { s with eng := engineAfter i s.eng, resp := some (responseOf i s.eng) } := by
  cases i with
  | wrStatus data =>
    simp only [exec, execWrStatus, engineAfter, responseOf, writeReturn, State.respond]
    cases operandClearDone data <;> cases operandClearErr data <;> rfl
  | _ => rfl

/-- An instruction answers a next state; RST_N and the inputs are as before. -/
theorem exec_next {i : Instr} {s t : State} (h : exec i s = .next t) :
    t = { s with eng := engineAfter i s.eng, resp := some (responseOf i s.eng) } := by
  rw [exec_eq] at h
  exact (Host.Outcome.next.inj h).symm

/-- Everything a step can do when it answers a next state: take the engine's turn with no input left, or take the next input
and do what that input does. -/
theorem step_cases {s t : State} (h : step s = .next t) :
    (s.inputs = [] ∧ t = if s.rstN then { s with eng := s.eng.engineStep } else s) ∨
    (∃ i rest, s.inputs = i :: rest ∧
      ((∃ tw, (i = .transaction tw ∨
            ∃ w size addr wdata, i = .access w size addr wdata ∧ accessWord w size addr wdata = some tw) ∧
          s.rstN = true ∧
          t = { s with
            eng := engineAfter (decode tw) s.eng
            resp := some (responseOf (decode tw) s.eng)
            inputs := rest }) ∨
       (i = .engineTurn ∧ s.rstN = true ∧ t = { s with eng := s.eng.engineStep, inputs := rest }) ∨
       (i = .engineTurn ∧ s.rstN = false ∧ t = { s with inputs := rest }) ∨
       (i = .resetAssert ∧ t = { s with rstN := false, eng := Engine.reset, inputs := rest }) ∨
       (i = .resetRelease ∧ t = { s with rstN := true, inputs := rest }))) := by
  unfold step nextStep at h
  cases hi : s.inputs with
  | nil =>
    left
    simp only [hi, engineTurn, Host.Outcome.next.injEq] at h
    exact ⟨rfl, h.symm⟩
  | cons i rest =>
    right
    refine ⟨i, rest, rfl, ?_⟩
    simp only [hi] at h
    cases i with
    | transaction tw =>
      left
      refine ⟨tw, .inl rfl, ?_⟩
      cases hr : s.rstN with
      | false => simp [runInput, hostTransaction, hr] at h
      | true =>
        simp only [runInput, hostTransaction, hr, if_true] at h
        exact ⟨rfl, exec_next h⟩
    | access w size addr wdata =>
      left
      simp only [runInput, hostAccess] at h
      cases ha : accessWord w size addr wdata with
      | none => simp [ha] at h
      | some tw =>
        refine ⟨tw, .inr ⟨w, size, addr, wdata, rfl, ha⟩, ?_⟩
        cases hr : s.rstN with
        | false => simp [hostTransaction, hr, ha] at h
        | true =>
          simp only [hostTransaction, hr, ha, if_true] at h
          exact ⟨rfl, exec_next h⟩
    | engineTurn =>
      simp only [runInput, engineTurn, Host.Outcome.next.injEq] at h
      cases hr : s.rstN with
      | false => exact .inr (.inr (.inl ⟨rfl, rfl, by rw [← h]; simp [hr]⟩))
      | true => exact .inr (.inl ⟨rfl, rfl, by rw [← h]; simp [hr]⟩)
    | resetAssert =>
      simp only [runInput, assertReset, Host.Outcome.next.injEq] at h
      exact .inr (.inr (.inr (.inl ⟨rfl, h.symm⟩)))
    | resetRelease =>
      simp only [runInput, releaseReset, Host.Outcome.next.injEq] at h
      exact .inr (.inr (.inr (.inr ⟨rfl, h.symm⟩)))

/-- What a step that answers a next state can do to the record: nothing, the reset action, the engine's turn, or one
instruction. -/
theorem step_record_cases {s t : State} (h : step s = .next t) :
    t.eng = s.eng ∨ t.eng = Engine.reset ∨
    (s.rstN = true ∧ (s.inputs = [] ∨ ∃ rest, s.inputs = .engineTurn :: rest) ∧ t.eng = s.eng.engineStep) ∨
    (∃ tw i rest, s.inputs = i :: rest ∧
      (i = .transaction tw ∨
        ∃ w size addr wdata, i = .access w size addr wdata ∧ accessWord w size addr wdata = some tw) ∧
      t.eng = engineAfter (decode tw) s.eng) := by
  rcases step_cases h with ⟨hi, rfl⟩ | ⟨i, rest, hi, ⟨tw, hh, _, rfl⟩ | ⟨rfl, hr, rfl⟩ | ⟨_, _, rfl⟩ |
    ⟨_, rfl⟩ | ⟨_, rfl⟩⟩
  · split
    · exact .inr (.inr (.inl ⟨‹_›, .inl hi, rfl⟩))
    · exact .inl rfl
  · exact .inr (.inr (.inr ⟨tw, i, rest, hi, hh, rfl⟩))
  · exact .inr (.inr (.inl ⟨hr, .inr ⟨rest, hi⟩, rfl⟩))
  · exact .inl rfl
  · exact .inr (.inl rfl)
  · exact .inl rfl

/-- The addresses of the window (20_memory.md R61). -/
theorem windowOffset_eq_some (addr : Nat) (off : Off) : windowOffset addr = some off ↔ addr = Config.base + off.toNat := by
  have hw : Config.windowBytes = 256 := rfl
  have ho := off.isLt
  unfold windowOffset
  split
  · rw [Option.some.injEq]
    constructor
    · rintro rfl
      rw [BitVec.toNat_ofNat]
      omega
    · rintro rfl
      simp
  · constructor
    · intro h
      cases h
    · rintro rfl
      omega

/-- A run whose first step answers a next state goes on from that state. -/
theorem run_succ {s t : State} (k : Nat) (h : step s = .next t) :
    Host.Core.run Sys2Proof.core (k + 1) s = Host.Core.run Sys2Proof.core k t := by
  have hs : Sys2Proof.core.step s = .next t := h
  simp only [Host.Core.run, hs]

/-- A run of one step is the step, when it answers a next state. -/
theorem run_one {s t : State} (h : step s = .next t) : Host.Core.run Sys2Proof.core 1 s = .next t := run_succ 0 h

end Sys2Proof.Machine
end

