-- ==== Sys2Proof/Laws/Hash.lean ====
section
/-! SUPPORT. The byte helpers and the block-by-block hash: lengths, the block a byte list makes, and what absorbing the
concatenation of two messages does. -/

namespace Sys2Proof.Machine

/-! ## Bytes and words -/

/-- The number four big-endian bytes stand for (R8). -/
theorem be32_toNat (a b c d : Byte) :
    (be32 a b c d).toNat = a.toNat * 2 ^ 24 + b.toNat * 2 ^ 16 + c.toNat * 2 ^ 8 + d.toNat := by
  have h : (be32 a b c d).toNat = ((a.toNat <<< 8 ||| b.toNat) <<< 8 ||| c.toNat) <<< 8 ||| d.toNat := by
    refine (BitVec.toNat_append (a ++ b ++ c) d).trans ?_
    rw [BitVec.toNat_append, BitVec.toNat_append]
  rw [h, ← Nat.shiftLeft_add_eq_or_of_lt d.isLt, ← Nat.shiftLeft_add_eq_or_of_lt c.isLt,
    ← Nat.shiftLeft_add_eq_or_of_lt b.isLt]
  simp only [Nat.shiftLeft_eq]
  omega

@[simp] theorem be64_length (v : DWord) : (be64 v).length = 8 := rfl
@[simp] theorem bytesBE32_length (w : Word) : (bytesBE32 w).length = 4 := rfl
@[simp] theorem zeros_length (n : Nat) : (zeros n).length = n := List.length_replicate

/-! ## Blocks -/

@[simp] theorem toBlock_nil : toBlock [] = Vector.replicate 64 0 := by decide

theorem toBlock_getElem (s : List Byte) (i : Nat) (h : i < 64) : (toBlock s)[i] = s.getD i 0 := by
  simp [toBlock]

/-- A block, as bytes, makes itself. -/
@[simp] theorem toBlock_toList (b : Block) : toBlock b.toList = b := by
  ext i hi
  simp [toBlock]

/-- One more byte in a block that is not full. -/
theorem toBlock_append_byte (s : List Byte) (h : s.length < 64) (b : Byte) :
    toBlock (s ++ [b]) = (toBlock s).set s.length b h := by
  ext i hi
  rw [toBlock_getElem, Vector.getElem_set, toBlock_getElem, List.getD_eq_getElem?_getD, List.getD_eq_getElem?_getD]
  by_cases h1 : s.length = i
  · subst h1
    simp
  · rw [if_neg h1]
    rcases Nat.lt_or_gt_of_ne h1 with h2 | h2
    · rw [List.getElem?_eq_none (by simp; omega), List.getElem?_eq_none (by omega)]
    · rw [List.getElem?_append_left h2]

/-- The bytes a block was made from stand at its front. -/
theorem toBlock_take (s : List Byte) (h : s.length ≤ 64) : (toBlock s).toList.take s.length = s := by
  apply List.ext_getElem
  · simp
    omega
  · intro i h1 h2
    simp [toBlock, h2]

/-! ## Absorbing a message -/

@[simp] theorem absorb_nil (h : Hash) : absorb h [] = h := rfl

theorem blocksOf_append (n k : Nat) (a b : List Byte) (ha : a.length = 64 * n) :
    blocksOf (n + k) (a ++ b) = blocksOf n a ++ blocksOf k b := by
  induction n generalizing a with
  | zero =>
    have ha0 : a = [] := by simpa using ha
    subst ha0
    simp [blocksOf]
  | succ n ih =>
    have e : n + 1 + k = (n + k) + 1 := by omega
    have h1 : (a ++ b).take 64 = a.take 64 := List.take_append_of_le_length (by omega)
    have h2 : (a ++ b).drop 64 = a.drop 64 ++ b := List.drop_append_of_le_length (by omega)
    rw [e, blocksOf, blocksOf, List.cons_append, h1, h2, ih _ (by simp; omega)]

/-- Whole blocks first, then the rest. -/
theorem absorb_append (h : Hash) (a b : List Byte) (ha : a.length % 64 = 0) :
    absorb h (a ++ b) = absorb (absorb h a) b := by
  unfold absorb
  have e : (a ++ b).length / 64 = a.length / 64 + b.length / 64 := by simp; omega
  rw [e, blocksOf_append _ _ _ _ (by omega), List.foldl_append]

/-- One block. -/
theorem absorb_block (h : Hash) (a : List Byte) (ha : a.length = 64) : absorb h a = compress h (toBlock a) := by
  unfold absorb
  rw [ha]
  show List.foldl compress h (blocksOf 1 a) = _
  simp only [blocksOf, List.foldl]
  rw [List.take_of_length_le (by omega)]

/-- The number of zero bytes of the padding, by the length modulo 64 only (R146). -/
theorem padZeros_eq (n : Nat) : padZeros n = (119 - n % 64) % 64 := by
  unfold padZeros
  omega

end Sys2Proof.Machine
end

