-- ==== Sys2Proof/Laws/PerInstr.lean ====
section
/-! SUPPORT. For every instruction: the word it is encoded as matches its own row of `spec/opcode_table.json`. One lemma per
constructor. -/

namespace Sys2Proof.Laws.EncodeMatchesRow

/-- The encoding of a well-formed instruction matches the row that bears its mnemonic. -/
def Statement (i : Instr) : Prop :=
  i.wf = true → ∃ r ∈ opcodeRows, r.mnemonic = i.mnemonic ∧ r.matchesWord (encode i) = true

/-- A row with a mask over W, SIZE and OFF matches a word with those fields, whatever its DATA. -/
theorem of_row {i : Instr} {n : Nat} (r : OpcodeRow) (hr : opcodeRows[n]? = some r) (hm : r.mnemonic = i.mnemonic)
    {w : Bool} {size : Size} {off : Off} {data : Word} (he : encode i = transactionWord w size off data)
    (h : (w && fieldW r.mask) = fieldW r.bits ∧ size &&& fieldSize r.mask = fieldSize r.bits ∧
      off &&& fieldOff r.mask = fieldOff r.bits ∧ data &&& fieldData r.mask = fieldData r.bits) :
    ∃ r ∈ opcodeRows, r.mnemonic = i.mnemonic ∧ r.matchesWord (encode i) = true :=
  ⟨r, List.mem_of_getElem? hr, hm, by rw [he, OpcodeRow.matchesWord_transactionWord]; exact h⟩

/-- A mask of zero picks no bit. -/
theorem and_zero_word (x : Word) : x &&& 0 = 0 := by simp

theorem buserrSize0 (w : Bool) (off : Off) (data : Word) : Statement (.buserrSize0 w off data) := fun _ =>
  of_row ⟨"BUSERR.SIZE0", 0x00000000000, 0x30000000000⟩ (n := 0) rfl rfl rfl
    ⟨Bool.and_false w, rfl, BitVec.and_zero, and_zero_word data⟩

theorem buserrSize1 (w : Bool) (off : Off) (data : Word) : Statement (.buserrSize1 w off data) := fun _ =>
  of_row ⟨"BUSERR.SIZE1", 0x10000000000, 0x30000000000⟩ (n := 1) rfl rfl rfl
    ⟨Bool.and_false w, rfl, BitVec.and_zero, and_zero_word data⟩

theorem buserrSize3 (w : Bool) (off : Off) (data : Word) : Statement (.buserrSize3 w off data) := fun _ =>
  of_row ⟨"BUSERR.SIZE3", 0x30000000000, 0x30000000000⟩ (n := 2) rfl rfl rfl
    ⟨Bool.and_false w, rfl, BitVec.and_zero, and_zero_word data⟩

theorem buserrMisalignB0 (w : Bool) (off : Off) (data : Word) : Statement (.buserrMisalignB0 w off data) := fun h =>
  of_row ⟨"BUSERR.MISALIGN_B0", 0x00100000000, 0x00100000000⟩ (n := 3) rfl rfl rfl
    ⟨Bool.and_false w, rfl, by change off.getLsbD 0 = true at h; revert off; decide, and_zero_word data⟩

theorem buserrMisalignB1 (w : Bool) (off : Off) (data : Word) : Statement (.buserrMisalignB1 w off data) := fun h =>
  of_row ⟨"BUSERR.MISALIGN_B1", 0x00200000000, 0x00200000000⟩ (n := 4) rfl rfl rfl
    ⟨Bool.and_false w, rfl, by change (!off.getLsbD 0 && off.getLsbD 1) = true at h; revert off; decide, and_zero_word data⟩

theorem cmdNop : Statement .cmdNop := fun _ => of_row ⟨"CMD.NOP", 0x61000000000, 0x7FFFFFFFFFF⟩ (n := 5) rfl rfl rfl (by decide)

theorem cmdKeyClear : Statement .cmdKeyClear := fun _ => of_row ⟨"CMD.KEY_CLEAR", 0x61000000001, 0x7FFFFFFFFFF⟩ (n := 6) rfl rfl rfl (by decide)

theorem cmdKeyFinal : Statement .cmdKeyFinal := fun _ => of_row ⟨"CMD.KEY_FINAL", 0x61000000002, 0x7FFFFFFFFFF⟩ (n := 7) rfl rfl rfl (by decide)

theorem cmdHotp : Statement .cmdHotp := fun _ => of_row ⟨"CMD.HOTP", 0x61000000003, 0x7FFFFFFFFFF⟩ (n := 8) rfl rfl rfl (by decide)

theorem cmdSoftReset : Statement .cmdSoftReset := fun _ => of_row ⟨"CMD.SOFT_RESET", 0x6100000000F, 0x7FFFFFFFFFF⟩ (n := 9) rfl rfl rfl (by decide)

theorem cmdIllegal (data : Word) : Statement (.cmdIllegal data) := fun _ =>
  of_row ⟨"CMD.ILLEGAL", 0x61000000000, 0x7FF00000000⟩ (n := 10) rfl rfl rfl ⟨rfl, rfl, rfl, and_zero_word data⟩

theorem wrId (data : Word) : Statement (.wrId data) := fun _ =>
  of_row ⟨"WR.ID", 0x60000000000, 0x7FF00000000⟩ (n := 11) rfl rfl rfl ⟨rfl, rfl, rfl, and_zero_word data⟩

theorem wrVersion (data : Word) : Statement (.wrVersion data) := fun _ =>
  of_row ⟨"WR.VERSION", 0x60400000000, 0x7FF00000000⟩ (n := 12) rfl rfl rfl ⟨rfl, rfl, rfl, and_zero_word data⟩

theorem wrCtrl (data : Word) : Statement (.wrCtrl data) := fun _ =>
  of_row ⟨"WR.CTRL", 0x60800000000, 0x7FF00000000⟩ (n := 13) rfl rfl rfl ⟨rfl, rfl, rfl, and_zero_word data⟩

theorem wrStatus (data : Word) : Statement (.wrStatus data) := fun _ =>
  of_row ⟨"WR.STATUS", 0x60C00000000, 0x7FF00000000⟩ (n := 14) rfl rfl rfl ⟨rfl, rfl, rfl, and_zero_word data⟩

theorem wrKeyWord (data : Word) : Statement (.wrKeyWord data) := fun _ =>
  of_row ⟨"WR.KEY_WORD", 0x61400000000, 0x7FF00000000⟩ (n := 15) rfl rfl rfl ⟨rfl, rfl, rfl, and_zero_word data⟩

theorem wrKeyByte (data : Word) : Statement (.wrKeyByte data) := fun _ =>
  of_row ⟨"WR.KEY_BYTE", 0x61800000000, 0x7FF00000000⟩ (n := 16) rfl rfl rfl ⟨rfl, rfl, rfl, and_zero_word data⟩

theorem wrKeyLenLo (data : Word) : Statement (.wrKeyLenLo data) := fun _ =>
  of_row ⟨"WR.KEY_LEN_LO", 0x61C00000000, 0x7FF00000000⟩ (n := 17) rfl rfl rfl ⟨rfl, rfl, rfl, and_zero_word data⟩

theorem wrKeyLenHi (data : Word) : Statement (.wrKeyLenHi data) := fun _ =>
  of_row ⟨"WR.KEY_LEN_HI", 0x62000000000, 0x7FF00000000⟩ (n := 18) rfl rfl rfl ⟨rfl, rfl, rfl, and_zero_word data⟩

theorem wrCounterHi (data : Word) : Statement (.wrCounterHi data) := fun _ =>
  of_row ⟨"WR.COUNTER_HI", 0x62400000000, 0x7FF00000000⟩ (n := 19) rfl rfl rfl ⟨rfl, rfl, rfl, and_zero_word data⟩

theorem wrCounterLo (data : Word) : Statement (.wrCounterLo data) := fun _ =>
  of_row ⟨"WR.COUNTER_LO", 0x62800000000, 0x7FF00000000⟩ (n := 20) rfl rfl rfl ⟨rfl, rfl, rfl, and_zero_word data⟩

theorem wrDigest0 (data : Word) : Statement (.wrDigest0 data) := fun _ =>
  of_row ⟨"WR.DIGEST0", 0x63000000000, 0x7FF00000000⟩ (n := 21) rfl rfl rfl ⟨rfl, rfl, rfl, and_zero_word data⟩

theorem wrDigest1 (data : Word) : Statement (.wrDigest1 data) := fun _ =>
  of_row ⟨"WR.DIGEST1", 0x63400000000, 0x7FF00000000⟩ (n := 22) rfl rfl rfl ⟨rfl, rfl, rfl, and_zero_word data⟩

theorem wrDigest2 (data : Word) : Statement (.wrDigest2 data) := fun _ =>
  of_row ⟨"WR.DIGEST2", 0x63800000000, 0x7FF00000000⟩ (n := 23) rfl rfl rfl ⟨rfl, rfl, rfl, and_zero_word data⟩

theorem wrDigest3 (data : Word) : Statement (.wrDigest3 data) := fun _ =>
  of_row ⟨"WR.DIGEST3", 0x63C00000000, 0x7FF00000000⟩ (n := 24) rfl rfl rfl ⟨rfl, rfl, rfl, and_zero_word data⟩

theorem wrDigest4 (data : Word) : Statement (.wrDigest4 data) := fun _ =>
  of_row ⟨"WR.DIGEST4", 0x64000000000, 0x7FF00000000⟩ (n := 25) rfl rfl rfl ⟨rfl, rfl, rfl, and_zero_word data⟩

theorem wrOffset (data : Word) : Statement (.wrOffset data) := fun _ =>
  of_row ⟨"WR.OFFSET", 0x64400000000, 0x7FF00000000⟩ (n := 26) rfl rfl rfl ⟨rfl, rfl, rfl, and_zero_word data⟩

theorem wrTrunc (data : Word) : Statement (.wrTrunc data) := fun _ =>
  of_row ⟨"WR.TRUNC", 0x64800000000, 0x7FF00000000⟩ (n := 27) rfl rfl rfl ⟨rfl, rfl, rfl, and_zero_word data⟩

theorem wrOtp (data : Word) : Statement (.wrOtp data) := fun _ =>
  of_row ⟨"WR.OTP", 0x64C00000000, 0x7FF00000000⟩ (n := 28) rfl rfl rfl ⟨rfl, rfl, rfl, and_zero_word data⟩

theorem wrOtpBcdLo (data : Word) : Statement (.wrOtpBcdLo data) := fun _ =>
  of_row ⟨"WR.OTP_BCD_LO", 0x65000000000, 0x7FF00000000⟩ (n := 29) rfl rfl rfl ⟨rfl, rfl, rfl, and_zero_word data⟩

theorem wrOtpBcdHi (data : Word) : Statement (.wrOtpBcdHi data) := fun _ =>
  of_row ⟨"WR.OTP_BCD_HI", 0x65400000000, 0x7FF00000000⟩ (n := 30) rfl rfl rfl ⟨rfl, rfl, rfl, and_zero_word data⟩

theorem rdId (data : Word) : Statement (.rdId data) := fun _ =>
  of_row ⟨"RD.ID", 0x20000000000, 0x7FF00000000⟩ (n := 31) rfl rfl rfl ⟨rfl, rfl, rfl, and_zero_word data⟩

theorem rdVersion (data : Word) : Statement (.rdVersion data) := fun _ =>
  of_row ⟨"RD.VERSION", 0x20400000000, 0x7FF00000000⟩ (n := 32) rfl rfl rfl ⟨rfl, rfl, rfl, and_zero_word data⟩

theorem rdCtrl (data : Word) : Statement (.rdCtrl data) := fun _ =>
  of_row ⟨"RD.CTRL", 0x20800000000, 0x7FF00000000⟩ (n := 33) rfl rfl rfl ⟨rfl, rfl, rfl, and_zero_word data⟩

theorem rdStatus (data : Word) : Statement (.rdStatus data) := fun _ =>
  of_row ⟨"RD.STATUS", 0x20C00000000, 0x7FF00000000⟩ (n := 34) rfl rfl rfl ⟨rfl, rfl, rfl, and_zero_word data⟩

theorem rdCmd (data : Word) : Statement (.rdCmd data) := fun _ =>
  of_row ⟨"RD.CMD", 0x21000000000, 0x7FF00000000⟩ (n := 35) rfl rfl rfl ⟨rfl, rfl, rfl, and_zero_word data⟩

theorem rdKeyWord (data : Word) : Statement (.rdKeyWord data) := fun _ =>
  of_row ⟨"RD.KEY_WORD", 0x21400000000, 0x7FF00000000⟩ (n := 36) rfl rfl rfl ⟨rfl, rfl, rfl, and_zero_word data⟩

theorem rdKeyByte (data : Word) : Statement (.rdKeyByte data) := fun _ =>
  of_row ⟨"RD.KEY_BYTE", 0x21800000000, 0x7FF00000000⟩ (n := 37) rfl rfl rfl ⟨rfl, rfl, rfl, and_zero_word data⟩

theorem rdKeyLenLo (data : Word) : Statement (.rdKeyLenLo data) := fun _ =>
  of_row ⟨"RD.KEY_LEN_LO", 0x21C00000000, 0x7FF00000000⟩ (n := 38) rfl rfl rfl ⟨rfl, rfl, rfl, and_zero_word data⟩

theorem rdKeyLenHi (data : Word) : Statement (.rdKeyLenHi data) := fun _ =>
  of_row ⟨"RD.KEY_LEN_HI", 0x22000000000, 0x7FF00000000⟩ (n := 39) rfl rfl rfl ⟨rfl, rfl, rfl, and_zero_word data⟩

theorem rdCounterHi (data : Word) : Statement (.rdCounterHi data) := fun _ =>
  of_row ⟨"RD.COUNTER_HI", 0x22400000000, 0x7FF00000000⟩ (n := 40) rfl rfl rfl ⟨rfl, rfl, rfl, and_zero_word data⟩

theorem rdCounterLo (data : Word) : Statement (.rdCounterLo data) := fun _ =>
  of_row ⟨"RD.COUNTER_LO", 0x22800000000, 0x7FF00000000⟩ (n := 41) rfl rfl rfl ⟨rfl, rfl, rfl, and_zero_word data⟩

theorem rdDigest0 (data : Word) : Statement (.rdDigest0 data) := fun _ =>
  of_row ⟨"RD.DIGEST0", 0x23000000000, 0x7FF00000000⟩ (n := 42) rfl rfl rfl ⟨rfl, rfl, rfl, and_zero_word data⟩

theorem rdDigest1 (data : Word) : Statement (.rdDigest1 data) := fun _ =>
  of_row ⟨"RD.DIGEST1", 0x23400000000, 0x7FF00000000⟩ (n := 43) rfl rfl rfl ⟨rfl, rfl, rfl, and_zero_word data⟩

theorem rdDigest2 (data : Word) : Statement (.rdDigest2 data) := fun _ =>
  of_row ⟨"RD.DIGEST2", 0x23800000000, 0x7FF00000000⟩ (n := 44) rfl rfl rfl ⟨rfl, rfl, rfl, and_zero_word data⟩

theorem rdDigest3 (data : Word) : Statement (.rdDigest3 data) := fun _ =>
  of_row ⟨"RD.DIGEST3", 0x23C00000000, 0x7FF00000000⟩ (n := 45) rfl rfl rfl ⟨rfl, rfl, rfl, and_zero_word data⟩

theorem rdDigest4 (data : Word) : Statement (.rdDigest4 data) := fun _ =>
  of_row ⟨"RD.DIGEST4", 0x24000000000, 0x7FF00000000⟩ (n := 46) rfl rfl rfl ⟨rfl, rfl, rfl, and_zero_word data⟩

theorem rdOffset (data : Word) : Statement (.rdOffset data) := fun _ =>
  of_row ⟨"RD.OFFSET", 0x24400000000, 0x7FF00000000⟩ (n := 47) rfl rfl rfl ⟨rfl, rfl, rfl, and_zero_word data⟩

theorem rdTrunc (data : Word) : Statement (.rdTrunc data) := fun _ =>
  of_row ⟨"RD.TRUNC", 0x24800000000, 0x7FF00000000⟩ (n := 48) rfl rfl rfl ⟨rfl, rfl, rfl, and_zero_word data⟩

theorem rdOtp (data : Word) : Statement (.rdOtp data) := fun _ =>
  of_row ⟨"RD.OTP", 0x24C00000000, 0x7FF00000000⟩ (n := 49) rfl rfl rfl ⟨rfl, rfl, rfl, and_zero_word data⟩

theorem rdOtpBcdLo (data : Word) : Statement (.rdOtpBcdLo data) := fun _ =>
  of_row ⟨"RD.OTP_BCD_LO", 0x25000000000, 0x7FF00000000⟩ (n := 50) rfl rfl rfl ⟨rfl, rfl, rfl, and_zero_word data⟩

theorem rdOtpBcdHi (data : Word) : Statement (.rdOtpBcdHi data) := fun _ =>
  of_row ⟨"RD.OTP_BCD_HI", 0x25400000000, 0x7FF00000000⟩ (n := 51) rfl rfl rfl ⟨rfl, rfl, rfl, and_zero_word data⟩

theorem rdRsvd (off : Off) (data : Word) : Statement (.rdRsvd off data) := fun h =>
  of_row ⟨"RD.RSVD", 0x20000000000, 0x70300000000⟩ (n := 52) rfl rfl rfl
    ⟨rfl, rfl, by change reservedOffset off = true at h; revert off; decide, and_zero_word data⟩

theorem wrRsvd (off : Off) (data : Word) : Statement (.wrRsvd off data) := fun h =>
  of_row ⟨"WR.RSVD", 0x60000000000, 0x70300000000⟩ (n := 53) rfl rfl rfl
    ⟨rfl, rfl, by change reservedOffset off = true at h; revert off; decide, and_zero_word data⟩

end Sys2Proof.Laws.EncodeMatchesRow
end

