-- ==== Sys2Proof/Tests/Slice0.lean ====
section
/-! SUPPORT. The model's own tests. Expected words and values are those of the encoding tables of 30_encoding.md and of
95_test_vectors.md. After them, for each statement with hypotheses, a witness that meets them. -/

namespace Sys2Proof.Tests

open Sys2Proof Sys2Proof.Machine

/-! ## WellFormed: an ill-formed term for each check -/

theorem test_wf_refuses_even_misalignB0 : (Instr.buserrMisalignB0 true 0x0E 0).wf = false := by decide
theorem test_wf_refuses_odd_misalignB1 : (Instr.buserrMisalignB1 false 0x11 0).wf = false := by decide
theorem test_wf_refuses_aligned_misalignB1 : (Instr.buserrMisalignB1 false 0x0C 0).wf = false := by decide
theorem test_wf_refuses_legal_illegal_command :
    (Instr.cmdIllegal 0x0).wf = false ∧ (Instr.cmdIllegal 0xF).wf = false := by decide
theorem test_wf_refuses_register_rdRsvd :
    (Instr.rdRsvd 0x28 0).wf = false ∧ (Instr.rdRsvd 0x2D 0).wf = false := by decide
theorem test_wf_refuses_register_wrRsvd :
    (Instr.wrRsvd 0x54 0).wf = false ∧ (Instr.wrRsvd 0x5A 0).wf = false := by decide

/-! ## Decode: every constructor, by a word written out from R81, R83 and R23 -/

/-- 95_test_vectors.md V12. -/
theorem test_decode_bus_errors :
    decode 0x40C00000030 = .buserrSize0 true 0x0C 0x30 ∧ decode 0x50C00000030 = .buserrSize1 true 0x0C 0x30 ∧
    decode 0x70C00000030 = .buserrSize3 true 0x0C 0x30 ∧ decode 0x20E00000000 = .buserrMisalignB1 false 0x0E 0 ∧
    decode 0x61100000003 = .buserrMisalignB0 true 0x11 3 ∧ decode 0x20F00000000 = .buserrMisalignB0 false 0x0F 0 ∧
    decode 0x01100000003 = .buserrSize0 false 0x11 3 := by
  decide

theorem test_decode_commands :
    decode 0x61000000000 = .cmdNop ∧ decode 0x61000000001 = .cmdKeyClear ∧ decode 0x61000000002 = .cmdKeyFinal ∧
    decode 0x61000000003 = .cmdHotp ∧ decode 0x6100000000F = .cmdSoftReset ∧
    decode 0x6100000001F = .cmdIllegal 0x1F ∧ decode 0x61000000004 = .cmdIllegal 0x4 := by
  decide

theorem test_decode_operand_and_key_writes :
    decode 0x608FFFFFFFF = .wrCtrl 0xFFFFFFFF ∧ decode 0x60C00000030 = .wrStatus 0x30 ∧
    decode 0x61431323334 = .wrKeyWord 0x31323334 ∧ decode 0x61800000141 = .wrKeyByte 0x141 ∧
    decode 0x62412345678 = .wrCounterHi 0x12345678 ∧ decode 0x6289ABCDEF0 = .wrCounterLo 0x9ABCDEF0 := by
  decide

theorem test_decode_ignored_writes :
    decode 0x600DEADBEEF = .wrId 0xDEADBEEF ∧ decode 0x60400000001 = .wrVersion 1 ∧
    decode 0x61C00000002 = .wrKeyLenLo 2 ∧ decode 0x62000000003 = .wrKeyLenHi 3 ∧
    decode 0x63000000004 = .wrDigest0 4 ∧ decode 0x63400000005 = .wrDigest1 5 ∧
    decode 0x63800000006 = .wrDigest2 6 ∧ decode 0x63C00000007 = .wrDigest3 7 ∧
    decode 0x64000000008 = .wrDigest4 8 ∧ decode 0x64400000009 = .wrOffset 9 ∧
    decode 0x6480000000A = .wrTrunc 0xA ∧ decode 0x64CFFFFFFFF = .wrOtp 0xFFFFFFFF ∧
    decode 0x6500000000B = .wrOtpBcdLo 0xB ∧ decode 0x6540000000C = .wrOtpBcdHi 0xC ∧
    decode 0x6FC12345678 = .wrRsvd 0xFC 0x12345678 ∧ decode 0x62CFFFFFFFF = .wrRsvd 0x2C 0xFFFFFFFF := by
  decide

/-- The words of 95_test_vectors.md V11. -/
theorem test_decode_reads :
    decode 0x20000000000 = .rdId 0 ∧ decode 0x20400000000 = .rdVersion 0 ∧ decode 0x20800000000 = .rdCtrl 0 ∧
    decode 0x20C00000000 = .rdStatus 0 ∧ decode 0x21000000000 = .rdCmd 0 ∧ decode 0x21400000000 = .rdKeyWord 0 ∧
    decode 0x21800000000 = .rdKeyByte 0 ∧ decode 0x21C00000000 = .rdKeyLenLo 0 ∧ decode 0x22000000000 = .rdKeyLenHi 0 ∧
    decode 0x22400000000 = .rdCounterHi 0 ∧ decode 0x22800000000 = .rdCounterLo 0 ∧ decode 0x23000000000 = .rdDigest0 0 ∧
    decode 0x23400000000 = .rdDigest1 0 ∧ decode 0x23800000000 = .rdDigest2 0 ∧ decode 0x23C00000000 = .rdDigest3 0 ∧
    decode 0x24000000000 = .rdDigest4 0 ∧ decode 0x24400000000 = .rdOffset 0 ∧ decode 0x24800000000 = .rdTrunc 0 ∧
    decode 0x24C00000000 = .rdOtp 0 ∧ decode 0x25000000000 = .rdOtpBcdLo 0 ∧ decode 0x25400000000 = .rdOtpBcdHi 0 ∧
    decode 0x22C00000000 = .rdRsvd 0x2C 0 ∧ decode 0x25800000000 = .rdRsvd 0x58 0 ∧
    decode 0x2FC00000000 = .rdRsvd 0xFC 0 ∧ decode 0x20000000005 = .rdId 5 := by
  decide

/-- A bit above 42 is rejected by name. -/
theorem test_decode_rejects_long_word :
    decodeNat (2 ^ 43) = .error .notATransactionWord ∧ decodeTableWord 44 (2 ^ 43) = none ∧
    decodeTableWord 43 0x61000000003 = some .cmdHotp := by
  decide

/-- One row of the table for each word. -/
theorem test_rows_follow_table_order :
    (opcodeRowOf 0x61000000003).map (·.mnemonic) = some "CMD.HOTP" ∧
    (opcodeRowOf 0x61000000013).map (·.mnemonic) = some "CMD.ILLEGAL" ∧
    (opcodeRowOf 0x00E00000000).map (·.mnemonic) = some "BUSERR.SIZE0" ∧
    (opcodeRowOf 0x22C00000000).map (·.mnemonic) = some "RD.RSVD" := by
  decide

/-! ## One transaction on a small state -/

/-- The record after one transaction. -/
def after (e : Engine) (t : TWord) : Engine :=
  match step { State.reset with eng := e, inputs := [.transaction t] } with
  | .next s => s.eng
  | .fault _ => e
  | .refused _ => e

/-- The response to one transaction. -/
def response (e : Engine) (t : TWord) : Option Response :=
  match step { State.reset with eng := e, inputs := [.transaction t] } with
  | .next s => s.resp
  | .fault _ => none
  | .refused _ => none

/-- A record with some STATUS fields. -/
def record (k : KState) (done : Bool) (err : Bool) (code : BitVec 4) : Engine :=
  { Engine.reset with kstate := k, done := done, err := err, errcode := code }

/-- A record just after CMD.KEY_CLEAR. -/
def clearing : Engine := { Engine.reset with busy := true, job := .keyClear }

/-- withFetchWord places the transaction that the next step runs. -/
theorem test_withFetchWord :
    (match step (State.reset.withFetchWord 48 0x61000000003) with
      | .next s => s.eng.statusWord
      | .fault _ => 0
      | .refused _ => 0) = 0x420 := by decide

/-! 95_test_vectors.md V10, by its STATUS column. -/

theorem test_illegal_command : (after Engine.reset 0x61000000004).statusWord = 0x120 := by decide
theorem test_soft_reset_needs_whole_word : (after Engine.reset 0x6100000001F).statusWord = 0x120 := by decide
theorem test_key_clear_starts : (after Engine.reset 0x61000000001).statusWord = 0x001 := by decide
theorem test_key_write_when_busy : (after clearing 0x61468656C6C).statusWord = 0x221 := by decide
theorem test_illegal_when_busy : (after clearing 0x61000000004).statusWord = 0x221 := by decide
theorem test_soft_reset_when_busy : after clearing 0x6100000000F = Engine.reset := by decide
theorem test_key_word_needs_loading : (after Engine.reset 0x61431323334).statusWord = 0x320 := by decide
theorem test_key_final_needs_loading : (after (record .ready true false 0) 0x61000000002).statusWord = 0x334 := by decide
theorem test_key_byte_needs_loading : (after (record .ready true false 0) 0x61800000041).statusWord = 0x334 := by decide
theorem test_hotp_needs_ready : (after (record .loading true false 0) 0x61000000003).statusWord = 0x432 := by decide
theorem test_hotp_digits_zero :
    (after { record .ready false false 0 with digits := 0 } 0x61000000003).statusWord = 0x524 := by decide
theorem test_hotp_digits_nine :
    (after { record .ready false false 0 with digits := 9 } 0x61000000003).statusWord = 0x005 := by decide
theorem test_hotp_latches :
    (after { record .ready false false 0 with counter := 7 } 0x61000000003).jobCounter = 7 ∧
    (after { record .ready false false 0 with counter := 7 } 0x61000000003).jobDigits = 6 := by decide
theorem test_key_word_over_limit :
    (after { record .loading false false 0 with klen := 0x1FFFFFFFFFFFFFFE } 0x61400000000).statusWord = 0x622 := by
  decide
theorem test_key_byte_at_limit :
    (after { record .loading false false 0 with klen := 0x1FFFFFFFFFFFFFFE } 0x61800000000).klen = 0x1FFFFFFFFFFFFFFF := by
  decide
theorem test_second_error_not_recorded : (after (record .empty false true 4) 0x61000000002).statusWord = 0x420 := by
  decide
theorem test_w1c_err : (after (record .ready true true 4) 0x60C00000020).statusWord = 0x014 := by decide
theorem test_w1c_done : (after (record .ready true true 4) 0x60C00000010).statusWord = 0x424 := by decide
theorem test_w1c_other_bits : (after (record .ready true true 4) 0x60C0000000F).statusWord = 0x434 := by decide
theorem test_nop : after Engine.reset 0x61000000000 = Engine.reset := by decide

/-! 95_test_vectors.md V10, the interrupt line. -/

theorem test_irq_table :
    ({ record .ready true false 0 with doneIe := false }).irq = false ∧
    ({ record .ready true false 0 with doneIe := true }).irq = true ∧
    ({ record .ready false false 0 with doneIe := true }).irq = false ∧
    ({ record .ready false true 1 with errIe := true }).irq = true ∧
    ({ record .ready true false 0 with errIe := true }).irq = false := by decide

/-! 95_test_vectors.md V11 and V12. -/

theorem test_reset_reads :
    response Engine.reset 0x20000000000 = some (.data 0x484F5450) ∧
    response Engine.reset 0x20400000000 = some (.data 0x00010000) ∧
    response Engine.reset 0x20800000000 = some (.data 0x00000006) ∧
    response Engine.reset 0x22C00000000 = some (.data 0) ∧
    response Engine.reset 0x20000000005 = some (.data 0x484F5450) := by decide
theorem test_ctrl_write : (after Engine.reset 0x608FFFFFFFF).ctrlWord = 0x30F := by decide
theorem test_counter_writes :
    (after (after Engine.reset 0x62412345678) 0x6289ABCDEF0).counter = 0x123456789ABCDEF0 := by decide
theorem test_ignored_writes :
    after Engine.reset 0x600DEADBEEF = Engine.reset ∧ after Engine.reset 0x62CFFFFFFFF = Engine.reset ∧
    response Engine.reset 0x64CFFFFFFFF = some .okay := by decide
theorem test_key_byte_low_bits :
    (after (record .loading false false 0) 0x61800000141).kbuf[0] = 0x41 ∧
    (after (record .loading false false 0) 0x61800000141).klen = 1 := by decide
theorem test_key_word_order :
    (after (record .loading false false 0) 0x61468656C6C).kbuf.toList.take 5 = [0x68, 0x65, 0x6C, 0x6C, 0] := by decide
theorem test_bus_error :
    response (record .ready true true 4) 0x40C00000030 = some (.busError 0x0C true 0) ∧
    after (record .ready true true 4) 0x40C00000030 = record .ready true true 4 ∧
    response Engine.reset 0x20E00000000 = some (.busError 0x0E false 2) := by decide

/-! ## The hash core and the jobs (95_test_vectors.md V1, V2, V3, V4, V5) -/

/-- The digest as its five words. -/
def words (dg : Digest) : List Word :=
  List.ofFn fun i : Fin 5 => ({ Engine.reset with digest := dg } : Engine).digestWord i

/-- The RFC key. -/
def rfcKey : List Byte := (List.range 20).map fun i => 0x30 + BitVec.ofNat 8 ((i + 1) % 10)

/-- The pattern key of a length. -/
def patternKey (n : Nat) : List Byte := (List.range n).map fun i => BitVec.ofNat 8 (7 * i + 1)

/-- A HOTP job with the RFC key pending. -/
def rfcJob (c : DWord) (d : BitVec 4) : Engine :=
  { Engine.reset with
    kstate := .ready, klen := 20, k0 := toBlock rfcKey, busy := true, job := .hotp, jobCounter := c, jobDigits := d }

theorem test_sha1_empty : words (sha1 []) = [0xda39a3ee, 0x5e6b4b0d, 0x3255bfef, 0x95601890, 0xafd80709] := by
  decide +kernel
theorem test_sha1_abc :
    words (sha1 [0x61, 0x62, 0x63]) = [0xa9993e36, 0x4706816a, 0xba3e2571, 0x7850c26c, 0x9cd0d89d] := by
  decide +kernel
theorem test_inner_hash :
    words (innerHash (toBlock rfcKey) (be64 0)) = [0x0891d9be, 0x09bb16c7, 0xc8722df3, 0x68d86350, 0x667e499e] := by
  decide +kernel
theorem test_hotp_counter_0 :
    words (rfcJob 0 9).engineStep.digest = [0xcc93cf18, 0x508d9493, 0x4c64b65d, 0x8ba7667f, 0xb7cde4b0] := by
  decide +kernel
theorem test_hotp_offset_15 :
    (rfcJob 34 6).engineStep.offset = 15 ∧ (rfcJob 34 6).engineStep.trunc = 0x19da7dbf := by decide +kernel
theorem test_reduction_nine_digits :
    (reduceDigits 1284755224 9).toNat = 284755224 ∧ (reduceDigits 1284755224 1).toNat = 4 ∧
    (reduceDigits 82162583 6).toNat = 162583 := by decide
theorem test_bcd_nine_digits :
    ({ Engine.reset with bcd := bcdOf 284755224 } : Engine).bcdLoWord = 0x84755224 ∧
    ({ Engine.reset with bcd := bcdOf 284755224 } : Engine).bcdHiWord = 2 := by decide
theorem test_password_leading_zero : password 9 (bcdOf 82162583) = [48, 56, 50, 49, 54, 50, 53, 56, 51] := by decide
theorem test_long_key_block :
    words (sha1 (patternKey 65)) = [0x5985422a, 0x25357371, 0xebd2a7f6, 0xecd7eebe, 0xd43db42c] := by decide +kernel
theorem test_absorb_first_block :
    (absorb sha1Init (patternKey 64)).toList = [0x716c11fc, 0x2d94e56a, 0xa23ae4b5, 0x156568db, 0x49e5de77] := by
  decide +kernel
theorem test_padding_two_blocks : (pad (zeros 56)).length = 128 ∧ padZeros 56 = 63 ∧ padZeros 55 = 0 := by decide +kernel
theorem test_totp_counter : totpCounter 1111111109 30 = some 37037036 ∧ totpCounter 59 0 = none := by decide
theorem test_pseudo_setctr :
    pseudoSetctr 0x123456789ABCDEF0 = [.transaction 0x62412345678, .transaction 0x6289ABCDEF0] := by decide
theorem test_pseudo_loadkey :
    pseudoLoadkey 0 [0x68, 0x65, 0x6C, 0x6C, 0x6F] =
      [.transaction 0x61000000001, .engineTurn, .transaction 0x20C00000000, .transaction 0x61468656C6C,
        .transaction 0x6180000006F, .transaction 0x61000000002, .engineTurn, .transaction 0x20C00000000] := by decide

/-! ## Witnesses: a state and operands that meet the hypotheses of each statement -/

/-- The reset machine with a record and inputs. -/
def machine (e : Engine) (inputs : List Input) : State := { State.reset with eng := e, inputs := inputs }

/-- A record with a job pending. -/
def pending (j : Job) : Engine := { Engine.reset with busy := true, job := j }

/-- A record in LOADING that holds a key. -/
def loadingWith (key : List Byte) : Engine :=
  { Engine.reset with
    kstate := .loading
    klen := BitVec.ofNat 64 key.length
    kh := absorb sha1Init (key.take (64 * (key.length / 64)))
    kbuf := toBlock (key.drop (64 * ((key.length - 1) / 64))) }

/-- A record in READY that holds a key. -/
def readyWith (key : List Byte) : Engine :=
  { Engine.reset with kstate := .ready, klen := BitVec.ofNat 64 key.length, k0 := k0Of key }

theorem loadingWith_loading (key : List Byte) (h : key.length < 2 ^ 64) : (loadingWith key).Loading key :=
  ⟨rfl, by rw [loadingWith, BitVec.toNat_ofNat, Nat.mod_eq_of_lt h], rfl, rfl⟩

theorem readyWith_ready (key : List Byte) (h : key.length < 2 ^ 64) : (readyWith key).Ready key :=
  ⟨rfl, by rw [readyWith, BitVec.toNat_ofNat, Nat.mod_eq_of_lt h], rfl⟩

theorem readyWith_keyInv (key : List Byte) (h : key.length < 2 ^ 64) : (readyWith key).KeyInv := by
  refine ⟨fun hk => ?_, fun _ => ⟨key, readyWith_ready key h⟩, fun hk => absurd rfl hk, fun hj => ?_⟩
  · cases hk
  · cases hj

theorem loadingWith_keyInv (key : List Byte) (h : key.length < 2 ^ 64) : (loadingWith key).KeyInv := by
  refine ⟨fun _ => ⟨key, loadingWith_loading key h⟩, fun hk => ?_, fun _ => rfl, fun hj => ?_⟩
  · cases hk
  · cases hj

theorem reset_inv : Engine.reset.Inv := by
  refine ⟨?_, ?_, ?_, ?_, ?_, ?_, ?_, ?_, ?_, ?_⟩
  all_goals decide

theorem witness_StepRunsDecodedTransaction :
    (machine Engine.reset [.transaction 0x61000000000]).rstN = true ∧
    (machine Engine.reset [.transaction 0x61000000000]).inputs = .transaction 0x61000000000 :: [] := by decide

theorem witness_PlacedTransactionIsNextStep :
    decodeTableWord 43 0x61000000003 = some .cmdHotp ∧
    decodeTableWord 43 0x7FFFFFFFFFF = some (.buserrSize3 true 0xFF 0xFFFFFFFF) ∧
    decodeTableWord 48 0 = some (.buserrSize0 false 0 0) := by decide

theorem witness_EngineTurnEndsPendingJob :
    (machine (pending .hotp) [.engineTurn]).rstN = true ∧
    (machine (pending .hotp) [.engineTurn]).inputs = .engineTurn :: [] ∧ (machine clearing []).inputs = [] ∧
    (machine (pending .hotp) []).eng.busy = true ∧ (machine Engine.reset []).eng.busy = false := by decide

theorem witness_DecodeInvertsEncode :
    (Instr.cmdIllegal 0x4).wf = true ∧ (Instr.cmdIllegal 0x10).wf = true ∧ (Instr.cmdIllegal 0xFFFFFFFF).wf = true ∧
    (Instr.rdRsvd 0x2C 0).wf = true ∧ (Instr.rdRsvd 0x58 0).wf = true ∧ (Instr.wrRsvd 0xFC 0xFFFFFFFF).wf = true ∧
    (Instr.buserrMisalignB0 true 0xFF 0).wf = true ∧ (Instr.buserrMisalignB1 true 0x02 0).wf = true := by decide

theorem witness_DecodeFollowsTransactionRules :
    fieldSize 0x7FC00000000 ≠ 2 ∧ (fieldOff 0x6FF00000000).toNat % 4 ≠ 0 ∧
    (fieldSize 0x25400000000 = 2 ∧ (fieldOff 0x25400000000).toNat % 4 = 0 ∧ fieldW 0x25400000000 = false ∧
      Reg.off .otpBcdHi = fieldOff 0x25400000000) ∧
    (∀ r : Reg, r.off ≠ fieldOff 0x25800000000) ∧
    (fieldSize 0x6100000000E = 2 ∧ fieldW 0x6100000000E = true ∧ fieldOff 0x6100000000E = 0x10 ∧
      fieldData 0x6100000000E ∉ ([0x0, 0x1, 0x2, 0x3, 0xF] : List Word)) ∧
    (fieldData 0x61000000000 = 0x0 ∧ fieldData 0x61000000001 = 0x1 ∧ fieldData 0x61000000002 = 0x2 ∧
      fieldData 0x61000000003 = 0x3 ∧ fieldData 0x6100000000F = 0xF) ∧
    (fieldSize 0x60C00000000 = 2 ∧ (fieldOff 0x60C00000000).toNat % 4 = 0 ∧ fieldW 0x60C00000000 = true ∧
      fieldOff 0x60C00000000 ≠ 0x10 ∧ Reg.off .status = fieldOff 0x60C00000000) ∧
    (fieldOff 0x6FC00000000 ≠ 0x10 ∧ ∀ r : Reg, r.off ≠ fieldOff 0x6FC00000000) := by
  refine ⟨by decide, by decide, by decide, ?_, by decide, by decide, by decide, by decide, ?_⟩
  all_goals
    intro r
    cases r <;> decide

theorem witness_ReadKeyLengthAndCounterHalves :
    (machine { Engine.reset with klen := 0x1FFFFFFFFFFFFFFF } []).eng.klen.toNat ≤ 2 ^ 61 - 1 := by decide

theorem witness_AlignedReadReturnsRegister :
    (0x00 : Off).toNat % 4 = 0 ∧ Reg.off .id = 0x00 ∧ (0x54 : Off).toNat % 4 = 0 ∧ Reg.off .otpBcdHi = 0x54 ∧
    (0x2C : Off).toNat % 4 = 0 ∧ (∀ r : Reg, r.off ≠ 0x2C) ∧ (0xFC : Off).toNat % 4 = 0 ∧ ∀ r : Reg, r.off ≠ 0xFC := by
  refine ⟨by decide, by decide, by decide, by decide, by decide, ?_, by decide, ?_⟩
  all_goals
    intro r
    cases r <;> decide

theorem witness_WriteStatusClearsByOnes : (machine (pending .hotp) []).eng.busy = true := by decide

theorem witness_OperandWritesAreIdempotent :
    (∃ t : State, exec (.wrCtrl 0xFFFFFFFF) State.reset = .next t) ∧
    (∃ t : State, exec (.wrCounterHi 1) State.reset = .next t) ∧
    (∃ t : State, exec (.wrCounterLo 1) State.reset = .next t) := ⟨⟨_, rfl⟩, ⟨_, rfl⟩, ⟨_, rfl⟩⟩

theorem witness_NopOnlyChecksBusy : State.reset.eng.busy = false ∧ (machine clearing []).eng.busy = true := by decide

theorem witness_IllegalCommandIsRefused :
    (0x4 : Word) ∉ ([0x0, 0x1, 0x2, 0x3, 0xF] : List Word) ∧ (0xE : Word) ∉ ([0x0, 0x1, 0x2, 0x3, 0xF] : List Word) ∧
    (0x10 : Word) ∉ ([0x0, 0x1, 0x2, 0x3, 0xF] : List Word) ∧
    (0xFFFFFFFF : Word) ∉ ([0x0, 0x1, 0x2, 0x3, 0xF] : List Word) ∧
    State.reset.eng.busy = false ∧ (machine clearing []).eng.busy = true := by decide

theorem witness_SoftResetSetsEveryElement : Reg.otp ≠ .id ∧ Reg.otp ≠ .version ∧ Reg.otp ≠ .ctrl := by decide

theorem witness_KeyClearStartsAndCompletes :
    State.reset.eng.busy = false ∧ (machine clearing []).eng.busy = true ∧ clearing.busy = true ∧
    clearing.job = .keyClear := by decide

/-- A record in LOADING with a key length. -/
def loadingLen (n : DWord) : Engine := { Engine.reset with kstate := .loading, klen := n }

theorem witness_KeyWordWriteAppendsFourBytes :
    (machine clearing []).eng.busy = true ∧ State.reset.eng.kstate ≠ .loading ∧
    (readyWith []).kstate ≠ .loading ∧ (loadingLen 0x1FFFFFFFFFFFFFFC).busy = false ∧
    (loadingLen 0x1FFFFFFFFFFFFFFC).kstate = .loading ∧ 2 ^ 61 - 1 < (loadingLen 0x1FFFFFFFFFFFFFFC).klen.toNat + 4 ∧
    (loadingLen 0x1FFFFFFFFFFFFFFB).klen.toNat + 4 ≤ 2 ^ 61 - 1 ∧ (loadingLen 0).klen.toNat + 4 ≤ 2 ^ 61 - 1 := by decide

theorem witness_KeyByteWriteAppendsOneByte :
    (machine clearing []).eng.busy = true ∧ State.reset.eng.kstate ≠ .loading ∧
    (loadingLen 0x1FFFFFFFFFFFFFFF).busy = false ∧ (loadingLen 0x1FFFFFFFFFFFFFFF).kstate = .loading ∧
    2 ^ 61 - 1 < (loadingLen 0x1FFFFFFFFFFFFFFF).klen.toNat + 1 ∧
    (loadingLen 0x1FFFFFFFFFFFFFFE).klen.toNat + 1 ≤ 2 ^ 61 - 1 := by decide

theorem witness_AppendByteFillsAndCompresses : (0 : Nat) < 64 ∧ (63 : Nat) < 64 := by decide

theorem witness_KeyFinalStartsAndCompletes :
    (machine clearing []).eng.busy = true ∧ State.reset.eng.busy = false ∧ State.reset.eng.kstate ≠ .loading ∧
    (loadingLen 0).busy = false ∧ (loadingLen 0).kstate = .loading ∧ (pending .keyFinal).busy = true ∧
    (pending .keyFinal).job = .keyFinal := by decide

theorem witness_HotpIssueChecksAndLatches :
    (machine clearing []).eng.busy = true ∧ State.reset.eng.busy = false ∧ State.reset.eng.kstate ≠ .ready ∧
    (record .ready false false 0).kstate = .ready ∧ (record .ready false false 0).busy = false ∧
    (0 : BitVec 4) ∈ ([0, 10, 11, 12, 13, 14, 15] : List (BitVec 4)) ∧
    (10 : BitVec 4) ∈ ([0, 10, 11, 12, 13, 14, 15] : List (BitVec 4)) ∧
    (1 : BitVec 4) ∉ ([0, 10, 11, 12, 13, 14, 15] : List (BitVec 4)) ∧
    (9 : BitVec 4) ∉ ([0, 10, 11, 12, 13, 14, 15] : List (BitVec 4)) := by decide

theorem witness_HotpCompletionWritesResults : (rfcJob 0 6).busy = true ∧ (rfcJob 0 6).job = .hotp := ⟨rfl, rfl⟩

theorem witness_HotpResultRanges :
    (rfcJob 0 1).busy = true ∧ (rfcJob 0 1).job = .hotp ∧ 1 ≤ (rfcJob 0 1).jobDigits.toNat ∧
    (rfcJob 0 1).jobDigits.toNat ≤ 9 ∧ 1 ≤ (rfcJob 0 9).jobDigits.toNat ∧ (rfcJob 0 9).jobDigits.toNat ≤ 9 := by
  refine ⟨rfl, rfl, ?_, ?_, ?_, ?_⟩
  all_goals
    simp only [rfcJob]
    decide

theorem witness_HotpResultsDependOnLatchedOperandsOnly :
    ∃ e : Engine, e ≠ rfcJob 0 6 ∧ e.busy = true ∧ e.job = .hotp ∧ e.k0 = (rfcJob 0 6).k0 ∧
      e.jobCounter = (rfcJob 0 6).jobCounter ∧ e.jobDigits = (rfcJob 0 6).jobDigits :=
  ⟨{ rfcJob 0 6 with counter := 1 }, fun h => absurd (congrArg Engine.counter h) (by simp only [rfcJob]; decide),
    rfl, rfl, rfl, rfl, rfl⟩

theorem witness_RefusedOperationOnlyRecordsError :
    refusalOf (.cmdIllegal 4) Engine.reset = some .badCmd ∧ refusalOf .cmdNop clearing = some .busy ∧
    refusalOf .cmdKeyFinal Engine.reset = some .keyState ∧ refusalOf .cmdHotp Engine.reset = some .noKey ∧
    refusalOf .cmdHotp { record .ready false false 0 with digits := 10 } = some .digits ∧
    refusalOf (.wrKeyWord 0) (loadingLen 0x1FFFFFFFFFFFFFFC) = some .keyLen := by decide

theorem witness_AcceptedOperationRecordsNoError :
    refusalOf .cmdNop Engine.reset = none ∧ refusalOf .cmdSoftReset clearing = none ∧
    refusalOf (.wrStatus 0x20) (record .ready true true 4) = none ∧
    refusalOf (.wrKeyWord 0) (loadingLen 0x1FFFFFFFFFFFFFFB) = none := by decide

theorem witness_ErrorCausesByTransaction :
    Engine.reset.busy = false ∧ (0x1F : Word) ∉ ([0x0, 0x1, 0x2, 0x3, 0xF] : List Word) ∧
    clearing.busy = true ∧ (0x1F : Word) ≠ 0xF ∧ (0xFC : Off).toNat % 4 = 0 ∧ (0xFC : Off) ∉ ([0x10, 0x14, 0x18] : List Off) ∧
    Engine.reset.kstate ≠ .loading ∧ Engine.reset.kstate ≠ .ready ∧ (record .ready false false 0).busy = false ∧
    (record .ready false false 0).kstate = .ready ∧
    ({ record .ready false false 0 with digits := 0 } : Engine).digits ∈ ([0, 10, 11, 12, 13, 14, 15] : List (BitVec 4)) ∧
    (loadingLen 0x1FFFFFFFFFFFFFFC).busy = false ∧ (loadingLen 0x1FFFFFFFFFFFFFFC).kstate = .loading ∧
    2 ^ 61 - 1 < (loadingLen 0x1FFFFFFFFFFFFFFC).klen.toNat + 4 ∧
    2 ^ 61 - 1 < (loadingLen 0x1FFFFFFFFFFFFFFF).klen.toNat + 1 := by decide

theorem witness_BusErrorChangesNothing :
    (0 : Size) ≠ 2 ∧ (1 : Size) ≠ 2 ∧ (3 : Size) ≠ 2 ∧ (0x01 : Off).toNat % 4 ≠ 0 ∧ (0xFE : Off).toNat % 4 ≠ 0 := by decide

theorem witness_IrqIsLevelOfPendingAndEnable :
    ({ pending .keyClear with doneIe := true } : Engine).busy = true ∧
    ({ pending .keyClear with doneIe := true } : Engine).doneIe = true ∧
    refusalOf .cmdHotp { Engine.reset with errIe := true } = some .noKey ∧
    ({ Engine.reset with errIe := true } : Engine).errIe = true ∧
    ∃ t : State, exec .cmdHotp (machine { Engine.reset with errIe := true } []) = .next t := by
  refine ⟨rfl, rfl, by decide, rfl, ⟨_, rfl⟩⟩

theorem witness_ResetPinHoldsEngine :
    (machine clearing [.resetAssert]).inputs = .resetAssert :: [] ∧
    (machine clearing [.resetRelease]).inputs = .resetRelease :: [] ∧
    ({ machine Engine.reset [.engineTurn] with rstN := false } : State).rstN = false ∧
    ({ machine Engine.reset [.engineTurn] with rstN := false } : State).inputs = .engineTurn :: [] ∧
    ({ machine Engine.reset [] with rstN := false } : State).inputs = [] ∧
    ({ machine Engine.reset [.transaction 0] with rstN := false } : State).inputs = .transaction 0 :: [] := by decide

/-- Held in reset: an access at the two ends of the window, and one at the first address above it. -/
theorem witness_ResetPinHoldsEngine_access :
    let held := fun addr : Nat => ({ machine clearing [.access true 2 addr 1] with rstN := false } : State)
    (held (Config.base + (0x00 : Off).toNat)).rstN = false ∧
    (held (Config.base + (0x00 : Off).toNat)).inputs = .access true 2 (Config.base + (0x00 : Off).toNat) 1 :: [] ∧
    (held (Config.base + (0xFF : Off).toNat)).inputs = .access true 2 (Config.base + (0xFF : Off).toNat) 1 :: [] ∧
    (Config.base + 0x100 < Config.base ∨ Config.base + 0xFF < Config.base + 0x100) ∧
    (held (Config.base + 0x100)).inputs = .access true 2 (Config.base + 0x100) 1 :: [] :=
  ⟨rfl, rfl, rfl, .inr (by omega), rfl⟩

/-- The offsets 0 and 0xFF, and the first address above the window. -/
theorem witness_AccessIsRoutedByBase :
    (machine Engine.reset []).rstN = true ∧
    (machine Engine.reset [.access true 2 (Config.base + (0x00 : Off).toNat) 1]).inputs =
      .access true 2 (Config.base + (0x00 : Off).toNat) 1 :: [] ∧
    (machine Engine.reset [.access false 2 (Config.base + (0xFF : Off).toNat) 1]).inputs =
      .access false 2 (Config.base + (0xFF : Off).toNat) 1 :: [] ∧
    (Config.base + 0x100 < Config.base ∨ Config.base + 0xFF < Config.base + 0x100) ∧
    (machine Engine.reset [.access true 2 (Config.base + 0x100) 1]).inputs =
      .access true 2 (Config.base + 0x100) 1 :: [] :=
  ⟨rfl, rfl, rfl, .inr (by omega), rfl⟩

theorem witness_StepKeepsRegisterInvariants :
    (machine Engine.reset [.transaction 0x61000000001]).Inv ∧
    ∃ t : State, step (machine Engine.reset [.transaction 0x61000000001]) = .next t :=
  ⟨⟨reset_inv, fun h => by cases h⟩, ⟨_, rfl⟩⟩

theorem witness_StepKeepsKeyInvariants :
    (machine Engine.reset [.transaction 0x61000000001]).Inv ∧
    (machine Engine.reset [.transaction 0x61000000001]).eng.KeyInv ∧
    ∃ t : State, step (machine Engine.reset [.transaction 0x61000000001]) = .next t := by
  refine ⟨⟨reset_inv, fun h => by cases h⟩, ⟨fun h => ?_, fun h => ?_, fun _ => rfl, fun h => ?_⟩, ⟨_, rfl⟩⟩
  · cases h
  · cases h
  · cases h

theorem witness_ResultsChangeOnlyAtCompletion :
    ∃ t : State, step (machine Engine.reset [.transaction 0x64CFFFFFFFF]) = .next t := ⟨_, rfl⟩

theorem witness_KeyStateTransitions :
    (machine (loadingWith [0x41]) [.transaction 0x61000000002]).eng.KeyInv ∧
    ∃ t : State, step (machine (loadingWith [0x41]) [.transaction 0x61000000002]) = .next t :=
  ⟨loadingWith_keyInv _ (by decide), ⟨_, rfl⟩⟩

theorem witness_CounterAndKeyLengthWriters :
    ∃ t : State, step (machine Engine.reset [.transaction 0x62412345678]) = .next t := ⟨_, rfl⟩

/-- Two machines with different keys, and a host that reads OTP. -/
theorem witness_KeyMaterialIsNotVisible :
    let s₁ := machine { record .ready false false 0 with k0 := Vector.replicate 64 1 } [.transaction 0x24C00000000]
    let s₂ := machine { record .ready false false 0 with k0 := Vector.replicate 64 2 } [.transaction 0x24C00000000]
    s₁.inputs = s₂.inputs ∧ s₁.rstN = s₂.rstN ∧ s₁.resp = s₂.resp ∧ s₁.eng.withoutKey = s₂.eng.withoutKey ∧
      ¬ (s₁.engineTurnNow = true ∧ s₁.eng.busy = true ∧ s₁.eng.job = .hotp) ∧ ∃ t : State, step s₁ = .next t := by
  refine ⟨rfl, rfl, rfl, rfl, by decide, ⟨_, rfl⟩⟩

/-- Keys of no byte, of 63 bytes, and of the greatest lengths the two writes accept. -/
theorem witness_KeyWritesExtendTheKey :
    (pending .keyClear).busy = true ∧ (pending .keyClear).job = .keyClear ∧
    ((loadingWith []).Loading [] ∧ (loadingWith []).busy = false ∧ ([] : List Byte).length + 4 ≤ 2 ^ 61 - 1) ∧
    ((loadingWith (zeros 63)).Loading (zeros 63) ∧ (loadingWith (zeros 63)).busy = false ∧
      (zeros 63).length + 1 ≤ 2 ^ 61 - 1) ∧
    ((loadingWith (zeros (2 ^ 61 - 5))).Loading (zeros (2 ^ 61 - 5)) ∧
      (loadingWith (zeros (2 ^ 61 - 5))).busy = false ∧ (zeros (2 ^ 61 - 5)).length + 4 ≤ 2 ^ 61 - 1) ∧
    ((loadingWith (zeros (2 ^ 61 - 2))).Loading (zeros (2 ^ 61 - 2)) ∧
      (loadingWith (zeros (2 ^ 61 - 2))).busy = false ∧ (zeros (2 ^ 61 - 2)).length + 1 ≤ 2 ^ 61 - 1) := by
  refine ⟨rfl, rfl, ⟨loadingWith_loading _ (by decide), rfl, by decide⟩, ⟨loadingWith_loading _ ?_, rfl, ?_⟩,
    ⟨loadingWith_loading _ ?_, rfl, ?_⟩, ⟨loadingWith_loading _ ?_, rfl, ?_⟩⟩
  all_goals
    rw [zeros_length]
    decide

/-- The record of a KEY_FINAL that is pending on a key. -/
def finalizing (key : List Byte) : Engine := { loadingWith key with busy := true, job := .keyFinal }

theorem finalizing_loading (key : List Byte) (h : key.length < 2 ^ 64) :
    (finalizing key).Loading key ∧ (finalizing key).busy = true ∧ (finalizing key).job = .keyFinal :=
  ⟨⟨rfl, (loadingWith_loading key h).klen, rfl, rfl⟩, rfl, rfl⟩

theorem witness_KeyFinalFormsHmacKeyBlock :
    (finalizing []).Loading [] ∧ (finalizing []).busy = true ∧ (finalizing []).job = .keyFinal :=
  finalizing_loading [] (by decide)

/-- Lengths 0, 1, 64, 65, 119 and 120: the boundaries of the classes. -/
theorem witness_KeyBlockByLengthClass :
    (∀ n ∈ [0, 1, 64, 65, 119, 120], (finalizing (zeros n)).Loading (zeros n) ∧ (finalizing (zeros n)).busy = true ∧
      (finalizing (zeros n)).job = .keyFinal) ∧
    (zeros 0).length = 0 ∧ 1 ≤ (zeros 1).length ∧ (zeros 64).length ≤ 64 ∧ 64 < (zeros 65).length ∧
    (zeros 119).length % 64 ≤ 55 ∧ 56 ≤ (zeros 120).length % 64 := by
  refine ⟨fun n hn => finalizing_loading _ ?_, ?_⟩
  · rw [zeros_length]
    simp only [List.mem_cons, List.not_mem_nil, or_false] at hn
    omega
  · simp only [zeros_length]
    decide

theorem witness_ReadyKeyPersists :
    (machine (readyWith [0x41]) [.transaction 0x61000000001]).eng.KeyInv ∧
    (machine (readyWith [0x41]) [.transaction 0x61000000001]).eng.Ready [0x41] ∧
    ∃ t : State, step (machine (readyWith [0x41]) [.transaction 0x61000000001]) = .next t :=
  ⟨readyWith_keyInv _ (by decide), readyWith_ready _ (by decide), ⟨_, rfl⟩⟩

theorem test_no_reset_among_writes :
    ∀ tw ∈ ([0x62800000001, 0x60800000000, 0x61000000001] : List TWord), decode tw ≠ .cmdSoftReset := by
  intro tw h
  simp only [List.mem_cons, List.not_mem_nil, or_false] at h
  rcases h with rfl | rfl | rfl <;> decide

theorem test_no_reset_among_reads : ∀ tw ∈ ([0x20C00000000] : List TWord), decode tw ≠ .cmdSoftReset := by
  intro tw h
  simp only [List.mem_cons, List.not_mem_nil, or_false] at h
  rcases h with rfl
  decide

/-- A pending HOTP job, and a host that writes COUNTER_LO and CTRL and issues a refused KEY_CLEAR meanwhile. -/
theorem witness_PendingHotpIgnoresHostTransactions :
    let ts : List TWord := [0x62800000001, 0x60800000000, 0x61000000001]
    let s := machine (rfcJob 0 6) (ts.map .transaction ++ [.engineTurn])
    s.rstN = true ∧ s.eng.busy = true ∧ s.eng.job = .hotp ∧ (∀ tw ∈ ts, decode tw ≠ .cmdSoftReset) ∧
      s.inputs = ts.map .transaction ++ [.engineTurn] := by
  exact ⟨rfl, rfl, rfl, test_no_reset_among_writes, rfl⟩

theorem witness_HotpComputesPasswordOfLoadedKey :
    let ts : List TWord := [0x20C00000000]
    let s := machine (readyWith rfcKey) (.transaction 0x61000000003 :: (ts.map .transaction ++ [.engineTurn]))
    s.rstN = true ∧ s.eng.Ready rfcKey ∧ s.eng.busy = false ∧ 1 ≤ s.eng.digits.toNat ∧ s.eng.digits.toNat ≤ 9 ∧
      (∀ tw ∈ ts, decode tw ≠ .cmdSoftReset) ∧
      s.inputs = .transaction 0x61000000003 :: (ts.map .transaction ++ [.engineTurn]) := by
  refine ⟨rfl, readyWith_ready _ (by decide), rfl, ?_, ?_, test_no_reset_among_reads, rfl⟩
  all_goals
    simp only [machine, readyWith]
    decide

theorem witness_PendingJobCompletesWhenHostIsIdle :
    (machine clearing [.transaction 0x20C00000000]).rstN = true ∧
    ∀ i ∈ (machine clearing [.transaction 0x20C00000000]).inputs, i.isOrdinary = true := by decide

theorem witness_HostPasswordAndCounters :
    (9 : Nat) ≤ 9 ∧ (8 : Nat) < 9 ∧ (∀ i : Fin 9, (bcdOf 999999999)[i].toNat ≤ 9) ∧ (0 : Int) ≤ 0 ∧ (-1 : Int) ≤ 0 ∧
    (0 : Int) < 1 ∧ (0 : Nat) < 1 := by decide

end Sys2Proof.Tests
end

section
/-! PROOF. Every transaction word decodes to a well-formed instruction, and a step with a transaction in front runs it. -/

namespace Sys2Proof

/-- A command word carries an operand only when it is no legal command (30_encoding.md R83). -/
theorem decodeCommand_wf (data : Word) : (decodeCommand data).wf = true := by
  rcases decodeCommand_cases data with ⟨_, h⟩ | ⟨_, h⟩ | ⟨_, h⟩ | ⟨_, h⟩ | ⟨_, h⟩ | ⟨hill, h⟩ <;> rw [h]
  case inr.inr.inr.inr.inr => simp only [Instr.wf, hill, Bool.not_false]
  all_goals rfl

/-- An aligned read names a register or a reserved offset (10_state.md R38). -/
theorem decodeRead_wf (off : Off) (data : Word) (h : off.toNat % 4 = 0) : (decodeRead off data).wf = true := by
  unfold decodeRead
  cases hr : regAt off with
  | none => exact (regAt_eq_none off h).1 hr
  | some r => cases r <;> rfl

/-- An aligned write names a command, a register or a reserved offset (10_state.md R38). -/
theorem decodeWrite_wf (off : Off) (data : Word) (h : off.toNat % 4 = 0) : (decodeWrite off data).wf = true := by
  unfold decodeWrite
  cases hr : regAt off with
  | none => exact (regAt_eq_none off h).1 hr
  | some r =>
    cases r
    case cmd => exact decodeCommand_wf data
    all_goals rfl

/-- Every case of the decoder (30_encoding.md R85) selects an instruction whose operands meet its check. -/
theorem decode_wf (t : TWord) : (decode t).wf = true := by
  simp only [decode]
  split
  case h_3 =>
    by_cases h0 : (fieldOff t).getLsbD 0 = true
    · rw [if_pos h0]
      exact h0
    rw [if_neg h0]
    by_cases h1 : (fieldOff t).getLsbD 1 = true
    · rw [if_pos h1]
      simp only [Instr.wf, h0, h1, Bool.not_false, Bool.and_self]
    rw [if_neg h1]
    have haligned : (fieldOff t).toNat % 4 = 0 :=
      (aligned_iff_bits _).2 ⟨Bool.eq_false_of_not_eq_true h0, Bool.eq_false_of_not_eq_true h1⟩
    split
    · exact decodeWrite_wf _ _ haligned
    · exact decodeRead_wf _ _ haligned
  all_goals rfl

end Sys2Proof

namespace Sys2Proof.Machine

/-- A host step outside reset runs the decoding of the transaction in front, on the machine without it (00_scope.md R11). -/
theorem step_transaction {s : State} {t : TWord} {rest : List Input} (hrst : s.rstN = true)
    (hin : s.inputs = .transaction t :: rest) : step s = exec (decode t) { s with inputs := rest } := by
  simp only [step, nextStep, hin, runInput, hostTransaction, hrst, if_true]

/-- Settles O1: the decoder's cases are all well formed, and the step of a machine out of reset is `exec` of the decoding. -/
theorem stepRunsDecodedTransaction : Obligations.StepRunsDecodedTransaction := fun _ t _ hrst hin =>
  ⟨decode_wf t, step_transaction hrst hin⟩

end Sys2Proof.Machine
end

section
/-! PROOF. What one transaction, one engine's turn and one step can do to the record, said once. -/

namespace Sys2Proof.Machine

namespace Engine

/-! ## Key writes: the elements they leave -/

@[simp] theorem appendBytes_kstate (e : Engine) (bs : List Byte) : (e.appendBytes bs).kstate = e.kstate := by
  rw [appendBytes_frame]
@[simp] theorem appendBytes_job (e : Engine) (bs : List Byte) : (e.appendBytes bs).job = e.job := by
  rw [appendBytes_frame]
@[simp] theorem appendBytes_k0 (e : Engine) (bs : List Byte) : (e.appendBytes bs).k0 = e.k0 := by
  rw [appendBytes_frame]

/-! ## One transaction -/

/-- The ways in which one transaction can leave the record: as it was, reset, with an error recorded, with a job started
(R103, R107, R180), with key bytes appended (R102), or with operand or flag registers written (R224, R226, R236, R238). -/
inductive TransactionStep (e : Engine) : Engine → Prop
  | keep : TransactionStep e e
  | reset : TransactionStep e Engine.reset
  | error (c : ErrorCode) : TransactionStep e (e.raiseError c)
  | startKeyClear (idle : e.busy = false) : TransactionStep e (e.startJob .keyClear)
  | startKeyFinal (idle : e.busy = false) (loading : e.kstate = .loading) : TransactionStep e (e.startJob .keyFinal)
  | startHotp (idle : e.busy = false) (ready : e.kstate = .ready) (digits : legalDigits e.digits = true) :
      TransactionStep e ({ e with jobCounter := e.counter, jobDigits := e.digits }.startJob .hotp)
  | append (bs : List Byte) (idle : e.busy = false) (loading : e.kstate = .loading)
      (room : e.klen.toNat + bs.length ≤ Config.keyLenMax) : TransactionStep e (e.appendBytes bs)
  | ctrl (digits : BitVec 4) (doneIe errIe : Bool) :
      TransactionStep e { e with digits := digits, doneIe := doneIe, errIe := errIe }
  | status (clearDone clearErr : Bool) :
      TransactionStep e { e with
        done := if clearDone then false else e.done
        err := if clearErr then false else e.err
        errcode := if clearErr then 0 else e.errcode }
  | counter (c : DWord) : TransactionStep e { e with counter := c }

/-- A key write is refused with an error or appends its bytes (R102). -/
theorem transactionStep_keyAppend (e : Engine) (bs : List Byte) : e.TransactionStep (e.keyAppend bs) := by
  rcases keyAppend_cases e bs with ⟨_, h⟩ | ⟨_, _, h⟩ | ⟨_, _, _, h⟩ | ⟨hidle, hloading, hroom, h⟩ <;> rw [h]
  case inr.inr.inr => exact .append bs hidle hloading hroom
  all_goals exact .error _

/-- Every instruction leaves the record in one of these ways. -/
theorem transactionStep_engineAfter (i : Instr) (e : Engine) : e.TransactionStep (engineAfter i e) := by
  cases i
  case cmdNop =>
    rw [engineAfter]
    split
    · exact .error _
    · exact .keep
  case cmdIllegal =>
    rw [engineAfter]
    split <;> exact .error _
  case cmdKeyClear =>
    rw [engineAfter]
    split
    case isTrue => exact .error _
    case isFalse hidle => exact .startKeyClear (Bool.eq_false_of_not_eq_true hidle)
  case cmdKeyFinal =>
    rw [engineAfter]
    split
    case isTrue => exact .error _
    case isFalse hidle =>
      split
      case isTrue => exact .error _
      case isFalse hloading =>
        exact .startKeyFinal (Bool.eq_false_of_not_eq_true hidle) (Decidable.not_not.1 hloading)
  case cmdHotp =>
    rw [engineAfter]
    split
    case isTrue => exact .error _
    case isFalse hidle =>
      split
      case isTrue => exact .error _
      case isFalse hready =>
        split
        case isTrue => exact .error _
        case isFalse hdigits =>
          exact .startHotp (Bool.eq_false_of_not_eq_true hidle) (Decidable.not_not.1 hready) (by simpa using hdigits)
  case cmdSoftReset => exact .reset
  case wrKeyWord => exact transactionStep_keyAppend e _
  case wrKeyByte => exact transactionStep_keyAppend e _
  case wrCtrl => exact .ctrl _ _ _
  case wrStatus => exact .status _ _
  case wrCounterHi => exact .counter _
  case wrCounterLo => exact .counter _
  all_goals exact .keep

/-! ## One engine step -/

/-- What the engine's turn can do: nothing, or the ending of a job after the completion rule of its kind (R42). -/
inductive TurnStep (e : Engine) : Engine → Prop
  | idle (hbusy : e.busy = false) : TurnStep e e
  | none (hbusy : e.busy = true) (hjob : e.job = .none) : TurnStep e e.finishJob
  | keyClear (hbusy : e.busy = true) (hjob : e.job = .keyClear) : TurnStep e e.keyClearComplete.finishJob
  | keyFinal (hbusy : e.busy = true) (hjob : e.job = .keyFinal) : TurnStep e e.keyFinalComplete.finishJob
  | hotp (hbusy : e.busy = true) (hjob : e.job = .hotp) : TurnStep e e.hotpComplete.finishJob

theorem turnStep_engineStep (e : Engine) : e.TurnStep e.engineStep := by
  rcases engineStep_cases e with ⟨hbusy, h⟩ | ⟨hbusy, h⟩ <;> rw [h]
  · exact .idle hbusy
  · cases hjob : e.job with
    | none => rw [completeJob_none hjob]; exact .none hbusy hjob
    | keyClear => rw [completeJob_keyClear hjob]; exact .keyClear hbusy hjob
    | keyFinal => rw [completeJob_keyFinal hjob]; exact .keyFinal hbusy hjob
    | hotp => rw [completeJob_hotp hjob]; exact .hotp hbusy hjob

end Engine

/-! ## One step -/

/-- What a step can do to the record: the reset action, the engine's turn, or one transaction (R11). -/
theorem step_eng_cases {s t : State} (h : step s = .next t) :
    t.eng = Engine.reset ∨ (s.engineTurnNow = true ∧ t.eng = s.eng.engineStep) ∨ s.eng.TransactionStep t.eng := by
  rcases step_record_cases h with heq | hreset | ⟨hrst, hin, hturn⟩ | ⟨_, _, _, _, _, hafter⟩
  · rw [heq]
    exact .inr (.inr .keep)
  · exact .inl hreset
  · refine .inr (.inl ⟨?_, hturn⟩)
    rcases hin with hin | ⟨rest, hin⟩ <;> simp [State.engineTurnNow, hrst, hin]
  · rw [hafter]
    exact .inr (.inr (s.eng.transactionStep_engineAfter _))

/-- A step that ends with RST_N low leaves the record at its reset values, if it was held there before (R340). -/
theorem step_held {s t : State} (h : step s = .next t) (hs : s.rstN = false → s.eng = Engine.reset)
    (ht : t.rstN = false) : t.eng = Engine.reset := by
  rcases step_cases h with ⟨_, rfl⟩ | ⟨i, rest, _, ⟨_, _, hrst, rfl⟩ | ⟨_, hrst, rfl⟩ | ⟨_, hrst, rfl⟩ | ⟨_, rfl⟩ | ⟨_, rfl⟩⟩
  · cases hrst : s.rstN with
    | true => simp [hrst] at ht
    | false => simp [hs hrst]
  · simp [hrst] at ht
  · simp [hrst] at ht
  · exact hs hrst
  · rfl
  · cases ht

end Sys2Proof.Machine
end

section
/-! PROOF. The invariants of 10_state.md R45: the reset record meets them, and every step keeps them. -/

namespace Sys2Proof.Machine

/-- The codes of R301 are 1 to 6. -/
theorem ErrorCode.bits_range (c : ErrorCode) : 1 ≤ c.bits.toNat ∧ c.bits.toNat ≤ 6 := by
  cases c <;> decide

/-! ## The results of a HOTP job -/

/-- OFFSET is the low nibble of the last digest byte (R182). -/
theorem truncOffset_toNat (dg : Digest) : (truncOffset dg).toNat = dg[19].toNat % 16 := by
  rw [truncOffset, BitVec.toNat_setWidth, BitVec.toNat_and]
  exact (Nat.mod_eq_of_lt (Nat.and_lt_two_pow _ (by decide))).trans (Nat.and_two_pow_sub_one_eq_mod dg[19].toNat 4)

/-- A value reduced to at most nine digits is below 10^9 (R184, R36). -/
theorem reduceDigits_lt (tr : BitVec 31) {d : BitVec 4} (h : d.toNat ≤ 9) : (reduceDigits tr d).toNat < 10 ^ 9 := by
  rw [reduceDigits, BitVec.toNat_ofNat]
  calc tr.toNat % 10 ^ d.toNat % 2 ^ 32 ≤ tr.toNat % 10 ^ d.toNat := Nat.mod_le _ _
    _ < 10 ^ d.toNat := Nat.mod_lt _ (Nat.pow_pos (by decide))
    _ ≤ 10 ^ 9 := Nat.pow_le_pow_right (by decide) h

/-- BCD digit `i` of a value (R185). -/
theorem bcdOf_getElem_toNat (v : Word) (i : Fin 9) : (bcdOf v)[i].toNat = v.toNat / 10 ^ i.val % 10 := by
  simp only [bcdOf, Fin.getElem_fin, Vector.getElem_ofFn, BitVec.toNat_ofNat]
  omega

namespace Engine

/-! ## One transaction -/

theorem inv_reset : Engine.reset.Inv := by
  constructor <;> decide

variable {e e' : Engine}

theorem Inv.raiseError (h : e.Inv) (c : ErrorCode) : (e.raiseError c).Inv := by
  rw [raiseError_eq]
  refine { h with errcode_clear := nofun, errcode_legal := fun _ => ?_ }
  cases herr : e.err with
  | true => exact h.errcode_legal herr
  | false => exact c.bits_range

theorem Inv.startJob (h : e.Inv) {j : Job} (hj : j ≠ .none) (hhotp : j ≠ .hotp) : (e.startJob j).Inv :=
  { h with
    busy_iff_job := iff_of_true rfl hj
    hotp_ready := fun hjob => absurd hjob hhotp }

theorem Inv.startHotp (h : e.Inv) (hready : e.kstate = .ready) (hdigits : legalDigits e.digits = true) :
    ({ e with jobCounter := e.counter, jobDigits := e.digits }.startJob .hotp).Inv :=
  { h with
    busy_iff_job := iff_of_true rfl nofun
    hotp_ready := fun _ => ⟨hready, by simpa [legalDigits] using hdigits⟩ }

theorem Inv.appendBytes (h : e.Inv) {bs : List Byte} (hloading : e.kstate = .loading)
    (hroom : e.klen.toNat + bs.length ≤ Config.keyLenMax) : (e.appendBytes bs).Inv := by
  have hnot : e.kstate ≠ .ready := by rw [hloading]; decide
  rw [appendBytes_frame]
  exact { h with
    klen_bound := by
      rw [BitVec.toNat_add, BitVec.toNat_ofNat, Nat.add_mod_mod]
      exact (Nat.mod_le _ _).trans hroom
    hotp_ready := fun hjob => absurd (h.hotp_ready hjob).1 hnot
    ready_clear := fun hready => absurd hready hnot }

theorem Inv.writeStatus (h : e.Inv) (clearDone clearErr : Bool) :
    ({ e with
        done := if clearDone then false else e.done
        err := if clearErr then false else e.err
        errcode := if clearErr then 0 else e.errcode } : Engine).Inv := by
  cases clearErr with
  | true => exact { h with errcode_clear := fun _ => rfl, errcode_legal := nofun }
  | false => exact { h with }

theorem TransactionStep.inv (hstep : e.TransactionStep e') (h : e.Inv) : e'.Inv := by
  cases hstep with
  | keep => exact h
  | reset => exact inv_reset
  | error c => exact h.raiseError c
  | startKeyClear => exact h.startJob (by decide) (by decide)
  | startKeyFinal => exact h.startJob (by decide) (by decide)
  | startHotp _ hready hdigits => exact h.startHotp hready hdigits
  | append bs _ hloading hroom => exact h.appendBytes hloading hroom
  | ctrl => exact { h with }
  | status clearDone clearErr => exact h.writeStatus clearDone clearErr
  | counter => exact { h with }

/-! ## The engine's turn -/

/-- The common ending leaves no job (R42). -/
theorem Inv.finishJob (h : e.Inv) : e.finishJob.Inv :=
  { h with
    busy_iff_job := iff_of_false Bool.false_ne_true (fun hjob => hjob rfl)
    hotp_ready := nofun }

theorem Inv.keyClearComplete (h : e.Inv) (hjob : e.job = .keyClear) : e.keyClearComplete.Inv :=
  { h with
    kstate_legal := nofun
    klen_bound := Nat.zero_le _
    hotp_ready := fun hhotp => nomatch hjob.symm.trans hhotp
    ready_clear := nofun }

theorem Inv.keyFinalComplete (h : e.Inv) (hjob : e.job = .keyFinal) : e.keyFinalComplete.Inv :=
  { h with
    kstate_legal := nofun
    hotp_ready := fun hhotp => nomatch hjob.symm.trans hhotp
    ready_clear := fun _ => ⟨rfl, rfl⟩ }

/-- The five results are written together from one digest, for at most nine digits (R181 to R185). -/
theorem Inv.withResults (h : e.Inv) (dg : Digest) {d : BitVec 4} (hd : d.toNat ≤ 9) : (e.withResults dg d).Inv :=
  { h with
    offset_of_digest := truncOffset_toNat dg
    bcd_of_otp := bcdOf_getElem_toNat _
    otp_bound := reduceDigits_lt _ hd }

theorem Inv.hotpComplete (h : e.Inv) (hjob : e.job = .hotp) : e.hotpComplete.Inv := by
  obtain ⟨_, _, hdigits⟩ := h.hotp_ready hjob
  exact h.withResults _ hdigits

theorem TurnStep.inv (hstep : e.TurnStep e') (h : e.Inv) : e'.Inv := by
  cases hstep with
  | idle => exact h
  | none => exact h.finishJob
  | keyClear _ hjob => exact (h.keyClearComplete hjob).finishJob
  | keyFinal _ hjob => exact (h.keyFinalComplete hjob).finishJob
  | hotp _ hjob => exact (h.hotpComplete hjob).finishJob

end Engine

/-- Settles O44: a transaction, the engine's turn and the reset action each keep R45, and the held record stays reset. -/
theorem stepKeepsRegisterInvariants : Obligations.StepKeepsRegisterInvariants := by
  intro s t h hstep
  refine ⟨?_, step_held hstep h.held⟩
  rcases step_eng_cases hstep with hreset | ⟨_, hturn⟩ | htransaction
  · rw [hreset]
    exact Engine.inv_reset
  · rw [hturn]
    exact s.eng.turnStep_engineStep.inv h.eng
  · exact htransaction.inv h.eng

end Sys2Proof.Machine
end

section
/-! PROOF. The key elements (10_state.md R39 to R41): what a key write, the completions and every other step do to the key
a record holds. -/

namespace Sys2Proof.Machine

/-- The whole blocks of a key are absorbed before what follows them (R40). -/
theorem absorb_wholeBlocks_append (h : Hash) (key m : List Byte) :
    absorb h (key.take (64 * (key.length / 64)) ++ m) = absorb (absorb h (key.take (64 * (key.length / 64)))) m :=
  absorb_append h _ m (by rw [List.length_take]; omega)

namespace Engine

variable {e e' : Engine} {key : List Byte}

/-! ## The key relations read five elements -/

/-- The elements that the key relations read. -/
def keyElements (e : Engine) : KState × DWord × Block × Hash × Block := (e.kstate, e.klen, e.kbuf, e.kh, e.k0)

theorem keyElements_eq_iff : e'.keyElements = e.keyElements ↔
    e'.kstate = e.kstate ∧ e'.klen = e.klen ∧ e'.kbuf = e.kbuf ∧ e'.kh = e.kh ∧ e'.k0 = e.k0 := by
  simp only [keyElements, Prod.mk.injEq]

@[simp] theorem raiseError_keyElements (c : ErrorCode) (e : Engine) :
    (e.raiseError c).keyElements = e.keyElements := by simp [keyElements]

theorem Loading.of_keyElements_eq (h : e.Loading key) (heq : e'.keyElements = e.keyElements) : e'.Loading key := by
  obtain ⟨hkstate, hklen, hkbuf, hkh, _⟩ := keyElements_eq_iff.1 heq
  exact ⟨hkstate.trans h.kstate, hklen ▸ h.klen, hkh.trans h.kh, hkbuf.trans h.kbuf⟩

theorem Ready.of_keyElements_eq (h : e.Ready key) (heq : e'.keyElements = e.keyElements) : e'.Ready key := by
  obtain ⟨hkstate, hklen, _, _, hk0⟩ := keyElements_eq_iff.1 heq
  exact ⟨hkstate.trans h.kstate, hklen ▸ h.klen, hk0.trans h.k0⟩

theorem KeyInv.of_keyElements_eq (h : e.KeyInv) (heq : e'.keyElements = e.keyElements)
    (hfinal : e'.job = .keyFinal → e'.kstate = .loading) : e'.KeyInv := by
  obtain ⟨hkstate, _, _, _, hk0⟩ := keyElements_eq_iff.1 heq
  refine ⟨fun hl => ?_, fun hr => ?_, fun hne => hk0.trans (h.k0_zero (hkstate ▸ hne)), hfinal⟩
  · obtain ⟨key, hkey⟩ := h.loading (hkstate.symm.trans hl)
    exact ⟨key, hkey.of_keyElements_eq heq⟩
  · obtain ⟨key, hkey⟩ := h.ready (hkstate.symm.trans hr)
    exact ⟨key, hkey.of_keyElements_eq heq⟩

/-! ## A key write extends the key (R102) -/

/-- The block `appendByte` writes into: the bytes of the key after its last whole block, a full block dropped (R39, R102). -/
theorem Loading.writeBlock (h : e.Loading key) :
    (if e.klen.toNat % 64 = 0 ∧ 0 < e.klen.toNat then Vector.replicate 64 0 else e.kbuf) =
      toBlock (key.drop (64 * (key.length / 64))) := by
  rw [h.kbuf, h.klen]
  split
  case isTrue hfull => rw [List.drop_of_length_le (by omega), toBlock_nil]
  case isFalse hpart => rw [show (key.length - 1) / 64 = key.length / 64 by omega]

theorem Loading.appendByte_kbuf (h : e.Loading key) (b : Byte) :
    (e.appendByte b).kbuf = toBlock (key.drop (64 * (key.length / 64)) ++ [b]) := by
  have hlen : (key.drop (64 * (key.length / 64))).length = key.length % 64 := by rw [List.length_drop]; omega
  rw [toBlock_append_byte _ (by omega), Engine.appendByte_kbuf, h.writeBlock]
  simp only [h.klen, hlen]

/-- The byte that fills a block is absorbed with it; any other leaves the chaining value (R40, R102). -/
theorem Loading.appendByte_kh (h : e.Loading key) (b : Byte) (hlen : key.length + 1 < 2 ^ 64) :
    (e.appendByte b).kh = absorb sha1Init ((key ++ [b]).take (64 * ((key.length + 1) / 64))) := by
  have hklen : (e.klen + 1).toNat = key.length + 1 := by
    rw [BitVec.toNat_add, h.klen]
    exact Nat.mod_eq_of_lt hlen
  rw [Engine.appendByte_kh, hklen, h.appendByte_kbuf, h.kh]
  split
  case isTrue hfull =>
    have hsplit : (key ++ [b]).take (64 * ((key.length + 1) / 64)) =
        key.take (64 * (key.length / 64)) ++ (key.drop (64 * (key.length / 64)) ++ [b]) := by
      rw [← List.append_assoc, List.take_append_drop, List.take_of_length_le (by simp; omega)]
    rw [hsplit, absorb_wholeBlocks_append, absorb_block _ (_ ++ [b]) (by simp; omega)]
  case isFalse hpart =>
    rw [show (key.length + 1) / 64 = key.length / 64 by omega, List.take_append_of_le_length (by omega)]

theorem Loading.appendByte (h : e.Loading key) (b : Byte) (hlen : key.length + 1 < 2 ^ 64) :
    (e.appendByte b).Loading (key ++ [b]) where
  kstate := h.kstate
  klen := by
    rw [appendByte_klen, BitVec.toNat_add, h.klen, List.length_append]
    exact Nat.mod_eq_of_lt hlen
  kh := by rw [h.appendByte_kh b hlen, List.length_append, List.length_singleton]
  kbuf := by
    rw [h.appendByte_kbuf, List.length_append, List.length_singleton, Nat.add_sub_cancel,
      List.drop_append_of_le_length (by omega)]

theorem Loading.appendBytes (h : e.Loading key) (bs : List Byte) (hlen : key.length + bs.length < 2 ^ 64) :
    (e.appendBytes bs).Loading (key ++ bs) := by
  induction bs generalizing e key with
  | nil => simpa using h
  | cons b bs ih =>
    rw [List.length_cons] at hlen
    have hb := ih (h.appendByte b (by omega)) (by simp; omega)
    rwa [List.append_assoc] at hb

/-! ## The completions (R104, R108) -/

theorem loading_keyClearComplete (e : Engine) : e.keyClearComplete.Loading [] :=
  ⟨rfl, rfl, rfl, toBlock_nil.symm⟩

/-- KBUF cut at the unfinished block is the key after its last whole block. -/
theorem Loading.kbuf_take (h : e.Loading key) :
    e.kbuf.toList.take (key.length % 64) = key.drop (64 * (key.length / 64)) := by
  rw [h.kbuf]
  by_cases hfull : key.length % 64 = 0
  · rw [hfull, List.take_zero, List.drop_of_length_le (by omega)]
  · have hlen : (key.drop (64 * (key.length / 64))).length = key.length % 64 := by rw [List.length_drop]; omega
    rw [show (key.length - 1) / 64 = key.length / 64 by omega, ← hlen, toBlock_take _ (by omega)]

/-- The streamed hash that KEY_FINAL finishes is SHA-1 of the whole key (R108, R147). -/
theorem Loading.finalHash_eq (h : e.Loading key) : e.finalHash = sha1 key := by
  have hpad : pad key = key.take (64 * (key.length / 64)) ++
      (key.drop (64 * (key.length / 64)) ++ padTail key.length) := by
    rw [← List.append_assoc, List.take_append_drop, pad]
  rw [finalHash, sha1, h.klen, h.kbuf_take, h.kh, hpad, absorb_wholeBlocks_append]

/-- K0 as KEY_FINAL forms it is the HMAC key block of the key, in both length classes (R108, R150). -/
theorem Loading.finalK0_eq (h : e.Loading key) : e.finalK0 = k0Of key := by
  rw [finalK0, k0Of, h.klen]
  split
  case isTrue hshort => rw [h.kbuf, show 64 * ((key.length - 1) / 64) = 0 by omega, List.drop_zero]
  case isFalse => rw [h.finalHash_eq]

theorem Loading.keyFinalComplete (h : e.Loading key) : e.keyFinalComplete.Ready key :=
  ⟨rfl, h.klen, h.finalK0_eq⟩

/-! ## One transaction -/

/-- A transaction leaves the key elements, resets them, or appends bytes to a key that is being loaded. -/
theorem TransactionStep.keyElements_cases (hstep : e.TransactionStep e') :
    e'.keyElements = e.keyElements ∨ e' = Engine.reset ∨
      ∃ bs, e.kstate = .loading ∧ e.klen.toNat + bs.length ≤ Config.keyLenMax ∧ e' = e.appendBytes bs := by
  cases hstep with
  | reset => exact .inr (.inl rfl)
  | append bs _ hloading hroom => exact .inr (.inr ⟨bs, hloading, hroom, rfl⟩)
  | error c => exact .inl (raiseError_keyElements c e)
  | _ => exact .inl rfl

/-- A transaction leaves KEY_FINAL pending only if it was, or issues it in LOADING (R107). -/
theorem TransactionStep.final_loading (hstep : e.TransactionStep e') (h : e.job = .keyFinal → e.kstate = .loading)
    (hfinal : e'.job = .keyFinal) : e'.kstate = .loading := by
  cases hstep with
  | error c => simpa using h (by simpa using hfinal)
  | append bs _ hloading => simpa using hloading
  | startKeyFinal _ hloading => exact hloading
  | reset => cases hfinal
  | startKeyClear => cases hfinal
  | startHotp => cases hfinal
  | _ => exact h hfinal

theorem keyInv_reset : Engine.reset.KeyInv := ⟨nofun, nofun, fun _ => rfl, nofun⟩

theorem TransactionStep.keyInv (hstep : e.TransactionStep e') (h : e.KeyInv) : e'.KeyInv := by
  have hfinal := hstep.final_loading h.final_loading
  rcases hstep.keyElements_cases with heq | rfl | ⟨bs, hloading, hroom, rfl⟩
  · exact h.of_keyElements_eq heq hfinal
  · exact keyInv_reset
  · obtain ⟨key, hkey⟩ := h.loading hloading
    have hnot : e.kstate ≠ .ready := by rw [hloading]; decide
    have hlen : key.length + bs.length < 2 ^ 64 := by
      rw [hkey.klen, Config.keyLenMax] at hroom
      omega
    refine ⟨fun _ => ⟨_, hkey.appendBytes bs hlen⟩, fun hready => ?_, fun _ => ?_, hfinal⟩
    · exact absurd (appendBytes_kstate e bs ▸ hready) hnot
    · rw [appendBytes_k0, h.k0_zero hnot]

/-! ## The engine's turn -/

theorem TurnStep.keyInv (hstep : e.TurnStep e') (h : e.KeyInv) : e'.KeyInv := by
  cases hstep with
  | idle => exact h
  | none => exact h.of_keyElements_eq rfl nofun
  | keyClear => exact ⟨fun _ => ⟨[], (loading_keyClearComplete e).of_keyElements_eq rfl⟩, nofun, fun _ => rfl, nofun⟩
  | keyFinal _ hjob =>
    obtain ⟨key, hkey⟩ := h.loading (h.final_loading hjob)
    exact ⟨nofun, fun _ => ⟨key, hkey.keyFinalComplete.of_keyElements_eq rfl⟩, fun hne => absurd rfl hne, nofun⟩
  | hotp => exact h.of_keyElements_eq (by simp [keyElements]) nofun

/-- A key that is READY stays through every turn but the completion of KEY_CLEAR (R48). -/
theorem TurnStep.ready (hstep : e.TurnStep e') (h : e.Ready key) (hinv : e.KeyInv) :
    e'.Ready key ∨ (e.busy = true ∧ e.job = .keyClear) := by
  cases hstep with
  | idle => exact .inl h
  | none => exact .inl (h.of_keyElements_eq rfl)
  | keyClear hbusy hjob => exact .inr ⟨hbusy, hjob⟩
  | keyFinal _ hjob => exact nomatch h.kstate.symm.trans (hinv.final_loading hjob)
  | hotp => exact .inl (h.of_keyElements_eq (by simp [keyElements]))

theorem TransactionStep.ready (hstep : e.TransactionStep e') (h : e.Ready key) :
    e'.Ready key ∨ e' = Engine.reset := by
  rcases hstep.keyElements_cases with heq | hreset | ⟨bs, hloading, _⟩
  · exact .inl (h.of_keyElements_eq heq)
  · exact .inr hreset
  · exact nomatch h.kstate.symm.trans hloading

end Engine

/-- Settles O45: a key write extends the key, KEY_CLEAR starts the empty one, KEY_FINAL forms the key block of the key, and
every other step leaves the key elements or resets them. -/
theorem stepKeepsKeyInvariants : Obligations.StepKeepsKeyInvariants := by
  intro s t _ h hstep
  rcases step_eng_cases hstep with hreset | ⟨_, hturn⟩ | htransaction
  · rw [hreset]
    exact Engine.keyInv_reset
  · rw [hturn]
    exact s.eng.turnStep_engineStep.keyInv h
  · exact htransaction.keyInv h

/-- Settles O43: the reset record meets R45, holds no key and has no job. -/
theorem resetMeetsInvariants : Obligations.ResetMeetsInvariants :=
  ⟨⟨Engine.inv_reset, nofun⟩, Engine.keyInv_reset⟩

/-- Settles O53: transactions leave a READY key or reset it, and of the completions only KEY_CLEAR ends it. -/
theorem readyKeyPersists : Obligations.ReadyKeyPersists := by
  intro s t key hinv h hstep
  rcases step_eng_cases hstep with hreset | ⟨hnow, hturn⟩ | htransaction
  · exact .inr (.inl hreset)
  · rcases s.eng.turnStep_engineStep.ready h hinv with hready | ⟨hbusy, hjob⟩
    · exact .inl (hturn ▸ hready)
    · exact .inr (.inr ⟨hnow, hbusy, hjob⟩)
  · exact (htransaction.ready h).imp_right .inl

end Sys2Proof.Machine
end

section
/-! PROOF. The result elements and the interrupt level (10_state.md R37, R42, R44, R46). -/

namespace Sys2Proof.Machine

/-- Nibble `i` of a word is its four bits from `4 * i` on. -/
theorem nibble_toNat (v : Word) (i : Nat) : v.toNat / 16 ^ i % 16 = (v.extractLsb' (4 * i) 4).toNat := by
  rw [BitVec.extractLsb'_toNat, Nat.shiftRight_eq_div_pow, Nat.pow_mul]

theorem not_legalDigits_iff (d : BitVec 4) : (!legalDigits d) = true ↔ d.toNat < 1 ∨ 9 < d.toNat := by
  simp only [legalDigits, Bool.not_and, Bool.or_eq_true, Bool.not_eq_true', decide_eq_false_iff_not, not_le]

namespace Engine

variable {e e' : Engine}

/-! ## The results (R46) -/

theorem appendBytes_results (e : Engine) (bs : List Byte) : (e.appendBytes bs).results = e.results := by
  rw [appendBytes_frame]
  rfl

theorem raiseError_results (c : ErrorCode) (e : Engine) : (e.raiseError c).results = e.results := by
  simp [results]

/-- No transaction but the reset writes a result. -/
theorem TransactionStep.results (hstep : e.TransactionStep e') : e'.results = e.results ∨ e' = Engine.reset := by
  cases hstep with
  | reset => exact .inr rfl
  | error c => exact .inl (raiseError_results c e)
  | append bs => exact .inl (appendBytes_results e bs)
  | _ => exact .inl rfl

/-- No turn but the completion of a HOTP job writes a result. -/
theorem TurnStep.results (hstep : e.TurnStep e') : e'.results = e.results ∨ (e.busy = true ∧ e.job = .hotp) := by
  cases hstep with
  | hotp hbusy hjob => exact .inr ⟨hbusy, hjob⟩
  | _ => exact .inl rfl

/-! ## The pending bits and their enables (R42, R44) -/

theorem irq_iff (e : Engine) : e.irq = true ↔ (e.done = true ∧ e.doneIe = true) ∨ (e.err = true ∧ e.errIe = true) := by
  simp [irq]

/-- The turn of a busy engine ends its job (R42). -/
theorem engineStep_ends_job (hbusy : e.busy = true) :
    e.engineStep.job = .none ∧ e.engineStep.busy = false ∧ e.engineStep.done = true := by
  rw [engineStep, if_pos hbusy]
  exact ⟨finishJob_job _, finishJob_busy _, finishJob_done _⟩

/-- The host's enables are no completion's to change. -/
@[simp] theorem engineStep_doneIe (e : Engine) : e.engineStep.doneIe = e.doneIe := by
  rcases engineStep_cases e with ⟨_, h⟩ | ⟨_, h⟩
  · rw [h]
  · rw [h, finishJob_doneIe, completeJob]
    split <;> simp

/-- One check of a command: where the outcome table gives the check's error, the command records it (R311, R302). -/
theorem check_records_refusal {p q : Prop} [Decidable p] [Decidable q] {a c : ErrorCode} {r : Option ErrorCode}
    {x : Engine} (h : (if p then some a else r) = some c) (hpq : q ↔ p) (hr : r = some c → x = e.raiseError c) :
    (if q then e.raiseError a else x) = e.raiseError c := by
  by_cases hp : p
  · rw [if_pos hp, Option.some.injEq] at h
    rw [if_pos (hpq.2 hp), h]
  · rw [if_neg hp] at h
    rw [if_neg (hpq.not.2 hp), hr h]

/-- An instruction to which R311 gives an error does nothing but record it (R302). -/
theorem engineAfter_of_refusalOf {i : Instr} {c : ErrorCode} (h : refusalOf i e = some c) :
    engineAfter i e = e.raiseError c := by
  cases i
  case cmdNop => exact check_records_refusal h .rfl nofun
  case cmdKeyClear => exact check_records_refusal h .rfl nofun
  case cmdIllegal => exact check_records_refusal h .rfl fun h => by rw [Option.some.inj h]
  case cmdKeyFinal => exact check_records_refusal h .rfl fun h => check_records_refusal h .rfl nofun
  case cmdHotp =>
    exact check_records_refusal h .rfl fun h => check_records_refusal h .rfl fun h =>
      check_records_refusal h (not_legalDigits_iff _) nofun
  case wrKeyWord =>
    exact check_records_refusal h .rfl fun h => check_records_refusal h .rfl fun h =>
      check_records_refusal h .rfl nofun
  case wrKeyByte =>
    exact check_records_refusal h .rfl fun h => check_records_refusal h .rfl fun h =>
      check_records_refusal h .rfl nofun
  all_goals cases h

/-! ## The BCD registers (R37) -/

theorem bcd_toList_getD (e : Engine) {i : Nat} (h : i < 9) : e.bcd.toList.getD i 0 = e.bcd[i] := by
  rw [List.getD_eq_getElem _ _ (by simpa using h), Vector.getElem_toList]

/-- Nibble `i` of OTP_BCD_LO is BCD[i]: the shifted digits do not overlap (R247). -/
theorem bcdLoWord_extractLsb' (e : Engine) (i : Fin 8) : e.bcdLoWord.extractLsb' (4 * i.val) 4 = e.bcd[i.val] := by
  apply BitVec.eq_of_getLsbD_eq
  intro j hj
  fin_cases i <;> simp (disch := omega) [bcdLoWord, hj, BitVec.getLsbD_of_ge] <;> omega

end Engine

/-- Settles O46: transactions write no result but by the reset, and the engine's turn only as a HOTP completion. -/
theorem resultsChangeOnlyAtCompletion : Obligations.ResultsChangeOnlyAtCompletion := by
  intro s t hstep
  rcases step_eng_cases hstep with hreset | ⟨hnow, hturn⟩ | htransaction
  · exact .inr (.inr hreset)
  · rcases s.eng.turnStep_engineStep.results with hkeep | ⟨hbusy, hjob⟩
    · exact .inl (hturn ▸ hkeep)
    · exact .inr (.inl ⟨hnow, hbusy, hjob, hturn⟩)
  · exact htransaction.results.imp_right .inr

/-- Settles O3: the turn, taken from the inputs or with none left, is the engine step, which ends the pending job. -/
theorem engineTurnEndsPendingJob : Obligations.EngineTurnEndsPendingJob := by
  intro s rest hrst
  refine ⟨fun hin => ?_, fun hin => ?_, Engine.engineStep_ends_job, fun hidle => ?_⟩
  · simp only [step, nextStep, hin, runInput, engineTurn, hrst, if_true]
  · simp only [step, nextStep, hin, engineTurn, hrst, if_true]
  · rw [Engine.engineStep, if_neg (by rw [hidle]; decide)]

/-- Settles O39: a completion sets DONE and keeps its enable, and a refused operation sets ERR and keeps its enable. -/
theorem irqIsLevelOfPendingAndEnable : Obligations.IrqIsLevelOfPendingAndEnable := by
  refine ⟨fun s => s.eng.irq_iff, fun e hbusy henable => ?_, fun i s t c hrefused henable hexec => ?_⟩
  · obtain ⟨_, _, hdone⟩ := Engine.engineStep_ends_job hbusy
    exact e.engineStep.irq_iff.2 (.inl ⟨hdone, e.engineStep_doneIe.trans henable⟩)
  · rw [exec_next hexec, State.irq, Engine.irq_iff, Engine.engineAfter_of_refusalOf hrefused]
    exact .inr ⟨Engine.raiseError_err c s.eng, (Engine.raiseError_errIe c s.eng).trans henable⟩

/-- Settles O14: the eight low digits are the nibbles of OTP_BCD_LO, and OTP_BCD_HI is the ninth, zero-extended. -/
theorem readBcdPacksDigits : Obligations.ReadBcdPacksDigits := by
  intro s d
  refine ⟨⟨s.eng.bcdLoWord, exec_eq _ s, fun i => ?_⟩, ⟨s.eng.bcdHiWord, exec_eq _ s, ?_⟩⟩
  · rw [nibble_toNat, Engine.bcdLoWord_extractLsb', Engine.bcd_toList_getD _ (by omega)]
  · rw [Engine.bcdHiWord, BitVec.toNat_setWidth_of_le (by decide), Engine.bcd_toList_getD _ (by decide)]

end Sys2Proof.Machine
end

section
/-! PROOF. The bus (20_memory.md R60 to R67): bus errors, the route by BASE, the writers of COUNTER and KLEN, and operand
writes that are repeated. -/

namespace Sys2Proof.Machine

/-! ## What every instruction answers (R64) -/

/-- Settles O40: `exec` answers the machine with another record and a response, and keeps its other two fields. -/
theorem everyInstructionAnswersNext : Obligations.EveryInstructionAnswersNext :=
  fun i s => ⟨_, exec_eq i s, rfl, rfl, nofun⟩

/-! ## Bus errors (R62 to R64) -/

/-- A size that is not 2, or a misaligned offset of size 2, selects a row that answers the bus error (R62, R63, R85). -/
theorem exec_decode_busError {w : Bool} {size : Size} {off : Off} (d : Word) (s : State)
    (h : size ≠ 2 ∨ off.toNat % 4 ≠ 0) :
    exec (decode (transactionWord w size off d)) s = busErrorReturn off w size s := by
  have hsizes : ∀ n : Size, n = 0 ∨ n = 1 ∨ n = 2 ∨ n = 3 := by decide
  rw [decode_transactionWord]
  rcases hsizes size with rfl | rfl | rfl | rfl
  case inr.inr.inl =>
    have hmisaligned : ¬ (off.getLsbD 0 = false ∧ off.getLsbD 1 = false) := fun hbits =>
      h.elim (· rfl) (· ((aligned_iff_bits off).2 hbits))
    cases h0 : off.getLsbD 0
    case true => rfl
    case false =>
      cases h1 : off.getLsbD 1
      case true => rfl
      case false => exact absurd ⟨h0, h1⟩ hmisaligned
  all_goals rfl

/-- Settles O38: the words the two rules refuse select a bus-error row, and each of the five rows answers the bus error,
which leaves the record. -/
theorem busErrorChangesNothing : Obligations.BusErrorChangesNothing := fun s _ _ _ d =>
  ⟨exec_decode_busError d s, exec_eq _ s, exec_eq _ s, exec_eq _ s, exec_eq _ s, exec_eq _ s⟩

/-! ## The route by BASE (R61) -/

/-- An address below BASE or past the last byte of the window has no offset in it. -/
theorem windowOffset_eq_none {addr : Nat} (h : addr < Config.base ∨ Config.base + 0xFF < addr) :
    windowOffset addr = none := by
  rw [Option.eq_none_iff_forall_ne_some]
  intro off hoff
  have haddr := (windowOffset_eq_some addr off).1 hoff
  have := off.isLt
  omega

/-- An access in the window carries its word, a read's with DATA = 0 (R60, R81). -/
theorem accessWord_base_add (w : Bool) (size : Size) (off : Off) (wdata : Word) :
    accessWord w size (Config.base + off.toNat) wdata =
      some (transactionWord w size off (if w then wdata else 0)) := by
  rw [accessWord, (windowOffset_eq_some _ off).2 rfl, Option.map_some]

theorem accessWord_eq_none {addr : Nat} (h : addr < Config.base ∨ Config.base + 0xFF < addr) (w : Bool) (size : Size)
    (wdata : Word) : accessWord w size addr wdata = none := by
  rw [accessWord, windowOffset_eq_none h, Option.map_none]

section

variable {s : State} {w : Bool} {size : Size} {addr : Nat} {wdata : Word} {rest : List Input}

/-- A routed access is the transaction of its word. -/
theorem step_access {tw : TWord} (hrst : s.rstN = true) (hin : s.inputs = .access w size addr wdata :: rest)
    (hword : accessWord w size addr wdata = some tw) : step s = exec (decode tw) { s with inputs := rest } := by
  simp only [step, nextStep, hin, runInput, hostAccess, hword, hostTransaction, hrst, if_true]

/-- An access with no word stops the machine, held in reset or not. -/
theorem step_access_notRouted (hin : s.inputs = .access w size addr wdata :: rest)
    (hword : accessWord w size addr wdata = none) : step s = .fault (.notRouted addr) := by
  simp only [step, nextStep, hin, runInput, hostAccess, hword]

end

/-- Settles O42: the window is exactly the 256 addresses from BASE on, and BASE is a multiple of its size. -/
theorem accessIsRoutedByBase : Obligations.AccessIsRoutedByBase := fun _ w size wdata _ hrst =>
  ⟨fun off hin => step_access hrst hin (accessWord_base_add w size off wdata),
    fun _ haddr hin => step_access_notRouted hin (accessWord_eq_none haddr w size wdata),
    Dvd.intro _ rfl⟩

/-! ## The writers of COUNTER and KLEN (R65) -/

namespace Engine

@[simp] theorem appendBytes_counter (e : Engine) (bs : List Byte) : (e.appendBytes bs).counter = e.counter := by
  rw [appendBytes_frame]

theorem appendBytes_klen (e : Engine) (bs : List Byte) :
    (e.appendBytes bs).klen = e.klen + BitVec.ofNat 64 bs.length := by
  rw [appendBytes_frame]

/-- A key write, refused or not, leaves COUNTER. -/
@[simp] theorem keyAppend_counter (e : Engine) (bs : List Byte) : (e.keyAppend bs).counter = e.counter := by
  rcases keyAppend_cases e bs with ⟨_, h⟩ | ⟨_, _, h⟩ | ⟨_, _, _, h⟩ | ⟨_, _, _, h⟩ <;> simp [h]

/-- A refused key write leaves KLEN, an accepted one counts its bytes (R102). -/
theorem keyAppend_klen (e : Engine) (bs : List Byte) :
    (e.keyAppend bs).klen = e.klen ∨ (e.keyAppend bs).klen = e.klen + BitVec.ofNat 64 bs.length := by
  rcases keyAppend_cases e bs with ⟨_, h⟩ | ⟨_, _, h⟩ | ⟨_, _, _, h⟩ | ⟨_, _, _, h⟩ <;> rw [h]
  case inr.inr.inr => exact .inr (appendBytes_klen e bs)
  all_goals exact .inl (raiseError_klen _ e)

/-- Of the instructions only the reset and the two COUNTER writes write COUNTER. -/
theorem engineAfter_counter (i : Instr) (e : Engine) :
    (engineAfter i e).counter = e.counter ∨ engineAfter i e = Engine.reset ∨
      ∃ d, i = .wrCounterHi d ∨ i = .wrCounterLo d := by
  cases i
  case cmdSoftReset => exact .inr (.inl rfl)
  case wrCounterHi d => exact .inr (.inr ⟨d, .inl rfl⟩)
  case wrCounterLo d => exact .inr (.inr ⟨d, .inr rfl⟩)
  case wrKeyWord => exact .inl (keyAppend_counter e _)
  case wrKeyByte => exact .inl (keyAppend_counter e _)
  case cmdNop | cmdKeyClear | cmdKeyFinal | cmdHotp | cmdIllegal =>
    exact .inl (by simp [engineAfter, apply_ite Engine.counter])
  all_goals exact .inl rfl

/-- Of the instructions only the reset and the two key writes write KLEN; a key write adds the number of its bytes. -/
theorem engineAfter_klen (i : Instr) (e : Engine) :
    (engineAfter i e).klen = e.klen ∨ engineAfter i e = Engine.reset ∨
      (∃ d, i = .wrKeyWord d ∧ (engineAfter i e).klen = e.klen + 4) ∨
      ∃ d, i = .wrKeyByte d ∧ (engineAfter i e).klen = e.klen + 1 := by
  cases i
  case cmdSoftReset => exact .inr (.inl rfl)
  case wrKeyWord d =>
    exact (keyAppend_klen e (operandKeyWord d)).imp_right fun h => .inr (.inl ⟨d, rfl, h⟩)
  case wrKeyByte d =>
    exact (keyAppend_klen e (operandKeyByte d)).imp_right fun h => .inr (.inr ⟨d, rfl, h⟩)
  case cmdNop | cmdKeyClear | cmdKeyFinal | cmdHotp | cmdIllegal =>
    exact .inl (by simp [engineAfter, apply_ite Engine.klen])
  all_goals exact .inl rfl

variable {e e' : Engine}

/-- No completion writes COUNTER. -/
theorem TurnStep.counter (hstep : e.TurnStep e') : e'.counter = e.counter := by
  cases hstep <;> simp

/-- Of the completions only KEY_CLEAR's writes KLEN (R104). -/
theorem TurnStep.klen (hstep : e.TurnStep e') :
    e'.klen = e.klen ∨ (e.busy = true ∧ e.job = .keyClear ∧ e'.klen = 0) := by
  cases hstep with
  | keyClear hbusy hjob => exact .inr ⟨hbusy, hjob, rfl⟩
  | _ => exact .inl (by simp)

end Engine

/-- What a step can do to the record, with the transaction it runs: `step_eng_cases` with the instruction kept. -/
theorem step_transactionNow_cases {s t : State} (h : step s = .next t) :
    t.eng = s.eng ∨ t.eng = Engine.reset ∨ (s.engineTurnNow = true ∧ t.eng = s.eng.engineStep) ∨
      ∃ tw, s.transactionNow = some tw ∧ t.eng = engineAfter (decode tw) s.eng := by
  rcases step_record_cases h with heq | hreset | ⟨hrst, hin, hturn⟩ | ⟨tw, i, rest, hin, hi, hafter⟩
  · exact .inl heq
  · exact .inr (.inl hreset)
  · refine .inr (.inr (.inl ⟨?_, hturn⟩))
    rcases hin with hin | ⟨rest, hin⟩ <;> simp [State.engineTurnNow, hrst, hin]
  · refine .inr (.inr (.inr ⟨tw, ?_, hafter⟩))
    rcases hi with rfl | ⟨w, size, addr, wdata, rfl, hword⟩
    · rw [State.transactionNow, hin]
    · rw [State.transactionNow, hin]
      exact hword

/-- Settles O48: no completion but KEY_CLEAR's touches the two elements, and of the transactions only their own writes and
the reset. -/
theorem counterAndKeyLengthWriters : Obligations.CounterAndKeyLengthWriters := by
  intro s t hstep
  rcases step_transactionNow_cases hstep with heq | hreset | ⟨hnow, hturn⟩ | ⟨tw, htw, hafter⟩
  · exact ⟨.inl (by rw [heq]), .inl (by rw [heq])⟩
  · exact ⟨.inr (.inl hreset), .inr (.inl hreset)⟩
  · have hcases := hturn ▸ s.eng.turnStep_engineStep
    exact ⟨.inl hcases.counter, hcases.klen.imp_right fun hclear => .inr (.inl ⟨hnow, hclear⟩)⟩
  · rw [hafter]
    constructor
    · rcases Engine.engineAfter_counter (decode tw) s.eng with hkeep | hreset | ⟨d, hwrite⟩
      · exact .inl hkeep
      · exact .inr (.inl hreset)
      · exact .inr (.inr ⟨tw, d, htw, hwrite⟩)
    · rcases Engine.engineAfter_klen (decode tw) s.eng with hkeep | hreset | ⟨d, hword⟩ | ⟨d, hbyte⟩
      · exact .inl hkeep
      · exact .inr (.inl hreset)
      · exact .inr (.inr (.inr (.inl ⟨tw, d, htw, hword⟩)))
      · exact .inr (.inr (.inr (.inr ⟨tw, d, htw, hbyte⟩)))

/-! ## Operand writes that are repeated (R67) -/

@[simp] theorem highHalf_joinHalves (hi lo : Word) : highHalf (joinHalves hi lo) = hi :=
  BitVec.extractLsb'_append_eq_left

@[simp] theorem lowHalf_joinHalves (hi lo : Word) : lowHalf (joinHalves hi lo) = lo :=
  BitVec.extractLsb'_append_eq_right

/-- An instruction that leaves its own record as it is, and gets the same response on it, changes nothing when repeated. -/
theorem exec_repeated {i : Instr} {s t : State} (h : exec i s = .next t)
    (hrecord : engineAfter i (engineAfter i s.eng) = engineAfter i s.eng)
    (hresponse : responseOf i (engineAfter i s.eng) = responseOf i s.eng) : exec i t = .next t := by
  rw [exec_next h, exec_eq]
  simp only [hrecord, hresponse]

/-- Settles O20: CTRL stores the same fields again, and a COUNTER half keeps the half it does not write. -/
theorem operandWritesAreIdempotent : Obligations.OperandWritesAreIdempotent := by
  intro s t d i hi h
  refine exec_repeated h ?_ ?_
  · rcases hi with rfl | rfl | rfl <;> simp [engineAfter]
  · rcases hi with rfl | rfl | rfl <;> rfl

end Sys2Proof.Machine
end

section
/-! PROOF. Decoder and encoder are inverse (30_encoding.md R81 to R86): the cases of R85 said once, and from them both round
trips. -/

namespace Sys2Proof

/-! ## Commands and reserved offsets -/

theorem decodeCommand_of_illegal {data : Word} (h : legalCommand data = false) : decodeCommand data = .cmdIllegal data := by
  rcases decodeCommand_cases data with ⟨hd, _⟩ | ⟨hd, _⟩ | ⟨hd, _⟩ | ⟨hd, _⟩ | ⟨hd, _⟩ | ⟨_, hdecode⟩
  case inr.inr.inr.inr.inr => exact hdecode
  all_goals exact absurd h (by rw [hd]; decide)

theorem aligned_of_reservedOffset {off : Off} (h : reservedOffset off = true) : off.toNat % 4 = 0 := by
  rw [reservedOffset, Bool.and_eq_true, beq_iff_eq] at h
  exact h.1

/-- A reserved offset names no register (10_state.md R38). -/
theorem regAt_of_reservedOffset {off : Off} (h : reservedOffset off = true) : regAt off = none :=
  (regAt_eq_none off (aligned_of_reservedOffset h)).2 h

theorem decodeRead_of_none {off : Off} (h : regAt off = none) (data : Word) : decodeRead off data = .rdRsvd off data := by
  rw [decodeRead, h]

theorem decodeWrite_of_none {off : Off} (h : regAt off = none) (data : Word) : decodeWrite off data = .wrRsvd off data := by
  rw [decodeWrite, h]

/-! ## The cases of the decoder -/

/-- The cases of R85: the instruction that a word with these fields selects. -/
inductive Selects : Bool → Size → Off → Word → Instr → Prop where
  | size0 (w : Bool) (off : Off) (data : Word) : Selects w 0 off data (.buserrSize0 w off data)
  | size1 (w : Bool) (off : Off) (data : Word) : Selects w 1 off data (.buserrSize1 w off data)
  | size3 (w : Bool) (off : Off) (data : Word) : Selects w 3 off data (.buserrSize3 w off data)
  | misalignB0 (w : Bool) {off : Off} (data : Word) (h0 : off.getLsbD 0 = true) :
      Selects w 2 off data (.buserrMisalignB0 w off data)
  | misalignB1 (w : Bool) {off : Off} (data : Word) (h0 : off.getLsbD 0 = false) (h1 : off.getLsbD 1 = true) :
      Selects w 2 off data (.buserrMisalignB1 w off data)
  | read {off : Off} (data : Word) (haligned : off.toNat % 4 = 0) : Selects false 2 off data (decodeRead off data)
  | write {off : Off} (data : Word) (haligned : off.toNat % 4 = 0) : Selects true 2 off data (decodeWrite off data)

variable {w : Bool} {size : Size} {off : Off} {data : Word} {i : Instr}

/-- What a case selects is what the decoder answers. -/
theorem Selects.decode_eq (h : Selects w size off data i) : decode (transactionWord w size off data) = i := by
  cases h with
  | misalignB0 _ _ h0 => exact (decode_transactionWord w 2 off data).trans (if_pos h0)
  | misalignB1 _ _ h0 h1 =>
    exact (decode_transactionWord w 2 off data).trans ((if_neg (Bool.eq_false_iff.1 h0)).trans (if_pos h1))
  | read _ haligned => exact decode_readWord off data haligned
  | write _ haligned => exact decode_writeWord off data haligned
  | _ => exact decode_transactionWord _ _ _ _

/-- One of the cases applies to every word. -/
theorem exists_selects (w : Bool) (size : Size) (off : Off) (data : Word) : ∃ i, Selects w size off data i := by
  have hsizes : ∀ n : Size, n = 0 ∨ n = 1 ∨ n = 2 ∨ n = 3 := by decide
  rcases hsizes size with rfl | rfl | rfl | rfl
  · exact ⟨_, .size0 w off data⟩
  · exact ⟨_, .size1 w off data⟩
  · cases h0 : off.getLsbD 0
    case true => exact ⟨_, .misalignB0 w data h0⟩
    case false =>
      cases h1 : off.getLsbD 1
      case true => exact ⟨_, .misalignB1 w data h0 h1⟩
      case false =>
        have haligned := (aligned_iff_bits off).2 ⟨h0, h1⟩
        cases w
        case true => exact ⟨_, .write data haligned⟩
        case false => exact ⟨_, .read data haligned⟩
  · exact ⟨_, .size3 w off data⟩

theorem selects_decode (w : Bool) (size : Size) (off : Off) (data : Word) :
    Selects w size off data (decode (transactionWord w size off data)) := by
  obtain ⟨i, hi⟩ := exists_selects w size off data
  rwa [hi.decode_eq]

/-! ## The encoder after the decoder -/

theorem encode_decodeCommand (data : Word) : encode (decodeCommand data) = writeWord 0x10 data := by
  rcases decodeCommand_cases data with ⟨rfl, h⟩ | ⟨rfl, h⟩ | ⟨rfl, h⟩ | ⟨rfl, h⟩ | ⟨rfl, h⟩ | ⟨_, h⟩ <;> rw [h] <;> rfl

theorem encode_decodeRead (off : Off) (data : Word) : encode (decodeRead off data) = readWord off data := by
  cases hr : regAt off with
  | none => rw [decodeRead_of_none hr, encode]
  | some r =>
    obtain rfl := (regAt_eq_some off r).1 hr
    cases r <;> rfl

theorem encode_decodeWrite (off : Off) (data : Word) : encode (decodeWrite off data) = writeWord off data := by
  cases hr : regAt off with
  | none => rw [decodeWrite_of_none hr, encode]
  | some r =>
    obtain rfl := (regAt_eq_some off r).1 hr
    cases r
    case cmd => exact encode_decodeCommand data
    all_goals rfl

/-- No case loses a bit of the word. -/
theorem Selects.encode_eq (h : Selects w size off data i) : encode i = transactionWord w size off data := by
  cases h with
  | read => exact encode_decodeRead off data
  | write => exact encode_decodeWrite off data
  | _ => rfl

/-- Settles O6: every case of the decoder keeps the four fields of the word. -/
theorem encodeInvertsDecode : Obligations.EncodeInvertsDecode := by
  intro t
  have h := selects_decode (fieldW t) (fieldSize t) (fieldOff t) (fieldData t)
  rw [transactionWord_fields] at h
  exact ⟨decode_wf t, h.encode_eq.trans (transactionWord_fields t)⟩

/-! ## The decoder after the encoder -/

/-- Settles O5: the word of a well-formed instruction has the fields of its own case. -/
theorem decodeInvertsEncode : Obligations.DecodeInvertsEncode := by
  intro i hwf
  cases i
  case buserrSize0 w off data => exact (Selects.size0 w off data).decode_eq
  case buserrSize1 w off data => exact (Selects.size1 w off data).decode_eq
  case buserrSize3 w off data => exact (Selects.size3 w off data).decode_eq
  case buserrMisalignB0 w off data => exact (Selects.misalignB0 w data hwf).decode_eq
  case buserrMisalignB1 w off data =>
    simp only [Instr.wf, Bool.and_eq_true, Bool.not_eq_true'] at hwf
    exact (Selects.misalignB1 w data hwf.1 hwf.2).decode_eq
  case cmdIllegal data =>
    refine (decode_writeWord 0x10 data (by decide)).trans (decodeCommand_of_illegal ?_)
    simpa only [Instr.wf, Bool.not_eq_true'] using hwf
  case rdRsvd off data =>
    exact (decode_readWord off data (aligned_of_reservedOffset hwf)).trans
      (decodeRead_of_none (regAt_of_reservedOffset hwf) data)
  case wrRsvd off data =>
    exact (decode_writeWord off data (aligned_of_reservedOffset hwf)).trans
      (decodeWrite_of_none (regAt_of_reservedOffset hwf) data)
  case rdId | rdVersion | rdCtrl | rdStatus | rdCmd | rdKeyWord | rdKeyByte | rdKeyLenLo | rdKeyLenHi | rdCounterHi |
      rdCounterLo | rdDigest0 | rdDigest1 | rdDigest2 | rdDigest3 | rdDigest4 | rdOffset | rdTrunc | rdOtp | rdOtpBcdLo |
      rdOtpBcdHi =>
    exact decode_readWord _ _ (by decide)
  -- The writes of registers, and the five commands as writes of CMD.
  all_goals exact decode_writeWord _ _ (by decide)

end Sys2Proof
end

section
/-! PROOF. The decoder against R85 of 30_encoding.md: the row of the opcode table that a word selects, group by group, and the
five cases. -/

namespace Sys2Proof

open Machine (regName)

/-! ## The name of the first row that matches -/

/-- The name of the first of `rows` that a word matches. -/
def rowName (rows : List OpcodeRow) (t : TWord) : Option String := (rows.find? (·.matchesWord t)).map (·.mnemonic)

@[simp] theorem rowName_nil (t : TWord) : rowName [] t = none := rfl

@[simp] theorem rowName_cons (r : OpcodeRow) (rows : List OpcodeRow) (t : TWord) :
    rowName (r :: rows) t = if r.matchesWord t then some r.mnemonic else rowName rows t := by
  rw [rowName, List.find?_cons]
  cases r.matchesWord t <;> rfl

theorem rowName_append (rows rows' : List OpcodeRow) (t : TWord) :
    rowName (rows ++ rows') t = (rowName rows t).or (rowName rows' t) := by
  rw [rowName, List.find?_append, Option.map_or, rowName, rowName]

theorem rowName_eq_none {rows : List OpcodeRow} {t : TWord} (h : ∀ r ∈ rows, ¬ r.matchesWord t = true) :
    rowName rows t = none := by
  rw [rowName, List.find?_eq_none.2 h, Option.map_none]

theorem rowName_opcodeRows (t : TWord) : rowName opcodeRows t =
    ((((rowName busErrorRows t).or (rowName commandRows t)).or (rowName writeRows t)).or (rowName readRows t)).or
      (rowName reservedRows t) := by
  simp only [opcodeRows, rowName_append]

/-! ## Rows by the fields they compare -/

/-- A row that compares only SIZE (R62). -/
def sizeRow (mnemonic : String) (size : Size) : OpcodeRow :=
  ⟨mnemonic, transactionWord false size 0 0, transactionWord false (.allOnes 2) 0 0⟩

/-- A row that asks for one bit of OFF to be set (R63). -/
def misalignRow (mnemonic : String) (k : Nat) : OpcodeRow :=
  ⟨mnemonic, transactionWord false 0 (.twoPow 8 k) 0, transactionWord false 0 (.twoPow 8 k) 0⟩

/-- A row that compares every bit with one command (R83). -/
def commandRow (mnemonic : String) (data : Word) : OpcodeRow :=
  ⟨mnemonic, writeWord 0x10 data, transactionWord true (.allOnes 2) (.allOnes 8) (.allOnes 32)⟩

/-- A row that compares W, SIZE = 2 and OFF. -/
def offsetRow (mnemonic : String) (w : Bool) (off : Off) : OpcodeRow :=
  ⟨mnemonic, transactionWord w 2 off 0, transactionWord true (.allOnes 2) (.allOnes 8) 0⟩

/-- A row that compares W, SIZE = 2 and the alignment of OFF. -/
def alignedRow (mnemonic : String) (w : Bool) : OpcodeRow :=
  ⟨mnemonic, transactionWord w 2 0 0, transactionWord true (.allOnes 2) 3 0⟩

@[simp] theorem offsetRow_mnemonic (m : String) (w : Bool) (off : Off) : (offsetRow m w off).mnemonic = m := rfl
@[simp] theorem alignedRow_mnemonic (m : String) (w : Bool) : (alignedRow m w).mnemonic = m := rfl

variable {w : Bool} {size : Size} {off : Off} {data : Word} {i : Instr} {m : String}

@[simp] theorem sizeRow_matchesWord (n : Size) :
    (sizeRow m n).matchesWord (transactionWord w size off data) = true ↔ size = n := by
  simp [OpcodeRow.matchesWord_transactionWord, sizeRow, -BitVec.reduceAllOnes]

theorem and_twoPow_eq_twoPow_iff (off : Off) {k : Nat} (hk : k < 8) :
    off &&& .twoPow 8 k = .twoPow 8 k ↔ off.getLsbD k = true := by
  rw [BitVec.and_twoPow]
  cases off.getLsbD k
  case true => simp
  case false =>
    refine iff_of_false (fun h => ?_) Bool.false_ne_true
    simpa [BitVec.getLsbD_twoPow, hk] using congrArg (BitVec.getLsbD · k) h

theorem misalignRow_matchesWord {k : Nat} (hk : k < 8) :
    (misalignRow m k).matchesWord (transactionWord w size off data) = true ↔ off.getLsbD k = true := by
  simp [OpcodeRow.matchesWord_transactionWord, misalignRow, and_twoPow_eq_twoPow_iff off hk]

@[simp] theorem commandRow_matchesWord (d : Word) :
    (commandRow m d).matchesWord (transactionWord w size off data) = true ↔
      w = true ∧ size = 2 ∧ off = 0x10 ∧ data = d := by
  simp [OpcodeRow.matchesWord_transactionWord, commandRow, writeWord, -BitVec.reduceAllOnes]

@[simp] theorem offsetRow_matchesWord (w' : Bool) (off' : Off) :
    (offsetRow m w' off').matchesWord (transactionWord w size off data) = true ↔ w = w' ∧ size = 2 ∧ off = off' := by
  simp [OpcodeRow.matchesWord_transactionWord, offsetRow, -BitVec.reduceAllOnes]

theorem and_three_eq_zero_iff (off : Off) : off &&& 3#8 = 0#8 ↔ off.toNat % 4 = 0 := by
  revert off
  decide

@[simp] theorem alignedRow_matchesWord (w' : Bool) :
    (alignedRow m w').matchesWord (transactionWord w size off data) = true ↔
      w = w' ∧ size = 2 ∧ off.toNat % 4 = 0 := by
  simp [OpcodeRow.matchesWord_transactionWord, alignedRow, and_three_eq_zero_iff, -BitVec.reduceAllOnes]

/-! ## The groups of the table -/

/-- The registers in the order of the table. -/
def registers : List Reg :=
  [.id, .version, .ctrl, .status, .cmd, .keyWord, .keyByte, .keyLenLo, .keyLenHi, .counterHi, .counterLo, .digest0, .digest1,
    .digest2, .digest3, .digest4, .offset, .trunc, .otp, .otpBcdLo, .otpBcdHi]

theorem mem_registers (r : Reg) : r ∈ registers := by cases r <;> decide

/-- The rows of some registers for one direction. -/
def registerRows (kind : String) (w : Bool) (rs : List Reg) : List OpcodeRow :=
  rs.map fun r => offsetRow (kind ++ regName r) w r.off

theorem busErrorRows_eq : busErrorRows =
    [sizeRow "BUSERR.SIZE0" 0, sizeRow "BUSERR.SIZE1" 1, sizeRow "BUSERR.SIZE3" 3,
      misalignRow "BUSERR.MISALIGN_B0" 0, misalignRow "BUSERR.MISALIGN_B1" 1] := rfl

theorem commandRows_eq : commandRows =
    [commandRow "CMD.NOP" 0x0, commandRow "CMD.KEY_CLEAR" 0x1, commandRow "CMD.KEY_FINAL" 0x2, commandRow "CMD.HOTP" 0x3,
      commandRow "CMD.SOFT_RESET" 0xF, offsetRow "CMD.ILLEGAL" true 0x10] := rfl

theorem writeRows_eq : writeRows = registerRows "WR." true (registers.erase .cmd) := rfl

theorem readRows_eq : readRows = registerRows "RD." false registers := rfl

theorem reservedRows_eq : reservedRows = [alignedRow "RD.RSVD" false, alignedRow "WR.RSVD" true] := rfl

theorem rowName_busErrorRows (w : Bool) (size : Size) (off : Off) (data : Word) :
    rowName busErrorRows (transactionWord w size off data) =
      if size = 0 then some "BUSERR.SIZE0"
      else if size = 1 then some "BUSERR.SIZE1"
      else if size = 3 then some "BUSERR.SIZE3"
      else if off.getLsbD 0 then some "BUSERR.MISALIGN_B0"
      else if off.getLsbD 1 then some "BUSERR.MISALIGN_B1"
      else none := by
  have h0 : (0 : Nat) < 8 := by decide
  have h1 : (1 : Nat) < 8 := by decide
  simp only [busErrorRows_eq, rowName_cons, rowName_nil, sizeRow_matchesWord, misalignRow_matchesWord, h0, h1]
  rfl

theorem rowName_busErrorRows_of_aligned (w : Bool) (data : Word) (haligned : off.toNat % 4 = 0) :
    rowName busErrorRows (transactionWord w 2 off data) = none := by
  obtain ⟨h0, h1⟩ := (aligned_iff_bits off).1 haligned
  rw [rowName_busErrorRows, h0, h1]
  rfl

/-- A write of CMD selects the row of its command, the catch-all row last (R83). -/
theorem rowName_commandRows (data : Word) :
    rowName commandRows (transactionWord true 2 0x10 data) = some (decodeCommand data).mnemonic := by
  rcases decodeCommand_cases data with ⟨rfl, h⟩ | ⟨rfl, h⟩ | ⟨rfl, h⟩ | ⟨rfl, h⟩ | ⟨rfl, h⟩ | ⟨hill, h⟩ <;> rw [h]
  case inr.inr.inr.inr.inr =>
    simp only [legalCommand, Bool.or_eq_false_iff, beq_eq_false_iff_ne, BitVec.ofNat_eq_ofNat] at hill
    simp [commandRows_eq, hill, Instr.mnemonic]
  all_goals rfl

/-- The command rows match only writes of CMD. -/
theorem rowName_commandRows_of_ne (size : Size) (data : Word) (hne : ¬ (w = true ∧ off = 0x10)) :
    rowName commandRows (transactionWord w size off data) = none := by
  have hrows : ∀ r ∈ commandRows, r.matchesWord (transactionWord w size off data) = true → w = true ∧ off = 0x10 := by
    simp +contextual [commandRows_eq]
  exact rowName_eq_none fun r hr hmatch => hne (hrows r hr hmatch)

/-- The row of the register that OFF names is the only one of its group that matches. -/
theorem rowName_registerRows {rs : List Reg} {r : Reg} (kind : String) (w : Bool) (data : Word) (hr : regAt off = some r)
    (hmem : r ∈ rs) :
    rowName (registerRows kind w rs) (transactionWord w 2 off data) = some (kind ++ regName r) := by
  induction rs with
  | nil => cases hmem
  | cons q qs ih =>
    rw [registerRows, List.map_cons, rowName_cons]
    by_cases hq : q = r
    · subst hq
      exact if_pos ((offsetRow_matchesWord _ _).2 ⟨rfl, rfl, ((regAt_eq_some off q).1 hr).symm⟩)
    · rw [if_neg]
      · exact ih (List.mem_of_ne_of_mem (Ne.symm hq) hmem)
      · rw [offsetRow_matchesWord]
        rintro ⟨-, -, hoff⟩
        exact hq (Option.some_inj.1 (((regAt_eq_some off q).2 hoff.symm).symm.trans hr))

theorem rowName_registerRows_eq_none {rs : List Reg} (kind : String) {w' : Bool} (size : Size) (data : Word)
    (h : w ≠ w' ∨ regAt off = none) :
    rowName (registerRows kind w' rs) (transactionWord w size off data) = none := by
  refine rowName_eq_none (List.forall_mem_map.2 fun r _ => ?_)
  rw [offsetRow_matchesWord]
  rintro ⟨hw, -, hoff⟩
  rcases h with hne | hnone
  · exact hne hw
  · exact nomatch hnone.symm.trans ((regAt_eq_some off r).2 hoff.symm)

theorem rowName_reservedRows (w : Bool) (data : Word) (haligned : off.toNat % 4 = 0) :
    rowName reservedRows (transactionWord w 2 off data) = some (if w then "WR.RSVD" else "RD.RSVD") := by
  cases w <;> simp [reservedRows_eq, haligned]

/-! ## The row that a word selects -/

theorem decodeRead_mnemonic {r : Reg} (hr : regAt off = some r) (data : Word) :
    (decodeRead off data).mnemonic = "RD." ++ regName r := by
  rw [decodeRead, hr]
  cases r <;> rfl

theorem decodeWrite_mnemonic {r : Reg} (hr : regAt off = some r) (hcmd : off ≠ 0x10) (data : Word) :
    (decodeWrite off data).mnemonic = "WR." ++ regName r := by
  rw [decodeWrite, hr]
  cases r
  case cmd => exact absurd ((regAt_eq_some off .cmd).1 hr).symm hcmd
  all_goals rfl

theorem rowName_readWord (data : Word) (haligned : off.toNat % 4 = 0) :
    rowName opcodeRows (readWord off data) = some (decodeRead off data).mnemonic := by
  rw [rowName_opcodeRows, readWord, rowName_busErrorRows_of_aligned _ _ haligned, rowName_commandRows_of_ne _ _ (by simp),
    writeRows_eq, rowName_registerRows_eq_none _ _ _ (.inl (by decide)), readRows_eq]
  cases hr : regAt off with
  | none =>
    rw [rowName_registerRows_eq_none _ _ _ (.inr hr), rowName_reservedRows _ _ haligned, decodeRead_of_none hr]
    rfl
  | some r =>
    rw [rowName_registerRows _ _ _ hr (mem_registers r), decodeRead_mnemonic hr]
    rfl

theorem rowName_writeWord (data : Word) (haligned : off.toNat % 4 = 0) :
    rowName opcodeRows (writeWord off data) = some (decodeWrite off data).mnemonic := by
  rw [rowName_opcodeRows, writeWord, rowName_busErrorRows_of_aligned _ _ haligned]
  by_cases hcmd : off = 0x10
  · rw [hcmd, rowName_commandRows]
    rfl
  rw [rowName_commandRows_of_ne _ _ fun h => hcmd h.2, writeRows_eq, readRows_eq,
    rowName_registerRows_eq_none "RD." _ _ (.inl (by decide))]
  cases hr : regAt off with
  | none =>
    rw [rowName_registerRows_eq_none _ _ _ (.inr hr), rowName_reservedRows _ _ haligned, decodeWrite_of_none hr]
    rfl
  | some r =>
    have hne : r ≠ .cmd := fun h => hcmd ((regAt_eq_some off .cmd).1 (h ▸ hr)).symm
    rw [rowName_registerRows _ _ _ hr ((List.mem_erase_of_ne hne).2 (mem_registers r)), decodeWrite_mnemonic hr hcmd]
    rfl

theorem rowName_of_busErrorRows {t : TWord} {name : String} (h : rowName busErrorRows t = some name) :
    rowName opcodeRows t = some name := by
  rw [rowName_opcodeRows, h]
  rfl

/-- The first row that a word matches bears the name of the instruction its case selects. -/
theorem Selects.rowName_eq (h : Selects w size off data i) :
    rowName opcodeRows (transactionWord w size off data) = some i.mnemonic := by
  cases h with
  | read _ haligned => exact rowName_readWord data haligned
  | write _ haligned => exact rowName_writeWord data haligned
  | misalignB0 _ _ h0 =>
    exact rowName_of_busErrorRows ((rowName_busErrorRows w 2 off data).trans (if_pos h0))
  | misalignB1 _ _ h0 h1 =>
    exact rowName_of_busErrorRows
      ((rowName_busErrorRows w 2 off data).trans ((if_neg (Bool.eq_false_iff.1 h0)).trans (if_pos h1)))
  | _ => exact rowName_of_busErrorRows (rowName_busErrorRows _ _ _ _)

/-! ## The five cases (R85) -/

theorem regAt_eq_none_of_forall_ne (h : ∀ r : Reg, r.off ≠ off) : regAt off = none :=
  Option.eq_none_iff_forall_ne_some.2 fun r hr => h r ((regAt_eq_some off r).1 hr)

/-- Case 1. -/
theorem Selects.busError (h : Selects w size off data i) (hbad : size ≠ 2 ∨ off.toNat % 4 ≠ 0) :
    i = .buserrSize0 w off data ∨ i = .buserrSize1 w off data ∨ i = .buserrSize3 w off data ∨
      i = .buserrMisalignB0 w off data ∨ i = .buserrMisalignB1 w off data := by
  cases h with
  | size0 => exact .inl rfl
  | size1 => exact .inr (.inl rfl)
  | size3 => exact .inr (.inr (.inl rfl))
  | misalignB0 => exact .inr (.inr (.inr (.inl rfl)))
  | misalignB1 => exact .inr (.inr (.inr (.inr rfl)))
  | read _ haligned | write _ haligned => exact absurd haligned (hbad.resolve_left (· rfl))

/-- Settles O7: the fields of the word decide the case, and in each case the first row that matches has the name of the
instruction. -/
theorem decodeFollowsTransactionRules : Obligations.DecodeFollowsTransactionRules := by
  intro t
  have hselects := selects_decode (fieldW t) (fieldSize t) (fieldOff t) (fieldData t)
  rw [← transactionWord_fields t]
  generalize fieldW t = w, fieldSize t = size, fieldOff t = off, fieldData t = data at hselects ⊢
  simp only [fieldW_transactionWord, fieldSize_transactionWord, fieldOff_transactionWord, fieldData_transactionWord]
  refine ⟨hselects.busError, ?_, ?_, ?_, hselects.rowName_eq⟩
  · rintro rfl haligned rfl
    rw [show decode (transactionWord false 2 off data) = _ from decode_readWord off data haligned]
    exact ⟨fun r hr => decodeRead_mnemonic ((regAt_eq_some off r).2 hr) data,
      fun hr => decodeRead_of_none (regAt_eq_none_of_forall_ne hr) data⟩
  · rintro rfl rfl rfl
    rw [show decode (transactionWord true 2 0x10 data) = decodeCommand data from
      decode_writeWord 0x10 data (by decide)]
    refine ⟨congrArg decodeCommand, congrArg decodeCommand, congrArg decodeCommand, congrArg decodeCommand,
      congrArg decodeCommand, fun hill => decodeCommand_of_illegal ?_⟩
    simpa [legalCommand, and_assoc] using hill
  · rintro rfl haligned rfl hcmd
    rw [show decode (transactionWord true 2 off data) = _ from decode_writeWord off data haligned]
    exact ⟨fun r hr => decodeWrite_mnemonic ((regAt_eq_some off r).2 hr) hcmd data,
      fun hr => decodeWrite_of_none (regAt_eq_none_of_forall_ne hr) data⟩

/-! ## Words of the test vectors -/

/-- Settles O4: the decoder runs on each of the fourteen words. -/
theorem sampleWordsDecode : Obligations.SampleWordsDecode := by
  unfold Obligations.SampleWordsDecode
  decide

/-! ## The transaction a host places -/

/-- A number that decodes is the transaction word of its bits (notes/assumptions/9.md). -/
theorem decode_of_decodeTableWord {nbits w : Nat} {i : Instr} (h : decodeTableWord nbits w = some i) :
    decode (BitVec.ofNat 43 (w % 2 ^ nbits)) = i := by
  unfold decodeTableWord decodeNat at h
  by_cases hlt : w % 2 ^ nbits < 2 ^ 43
  · rw [if_pos hlt] at h
    exact Option.some_inj.1 h
  · rw [if_neg hlt] at h
    cases h

end Sys2Proof

namespace Sys2Proof.Machine

/-- Settles O2: the placed word stands in front of the inputs of a machine out of reset. -/
theorem placedTransactionIsNextStep : Obligations.PlacedTransactionIsNextStep := by
  intro s nbits w i h
  rw [State.withFetchWord, step_transaction (placeTransaction_rstN _ s) (placeTransaction_inputs _ s),
    decode_of_decodeTableWord h]
  rfl

end Sys2Proof.Machine
end

section
/-! PROOF. Key loading (40_key.md R100 to R110): key writes, the two key commands, their completions, and the key state. -/

namespace Sys2Proof.Machine

/-! ## Refused instructions (R302) -/

/-- Only a write can be refused, and it gets OKAY. -/
theorem responseOf_of_refusalOf {i : Instr} {e : Engine} {c : ErrorCode} (h : refusalOf i e = some c) :
    responseOf i e = .okay := by
  cases i
  case cmdNop | cmdKeyClear | cmdKeyFinal | cmdHotp | cmdIllegal | wrKeyWord | wrKeyByte => rfl
  all_goals cases h

theorem Engine.raiseError_eq_errorRecorded (c : ErrorCode) (e : Engine) : e.raiseError c = e.errorRecorded c.bits :=
  e.raiseError_eq c

/-- An instruction to which R311 gives an error answers the error record. -/
theorem exec_of_refusalOf {i : Instr} {s : State} {c : ErrorCode} (h : refusalOf i s.eng = some c) :
    exec i s = .next (s.afterError c.bits) := by
  rw [exec_eq, Engine.engineAfter_of_refusalOf h, responseOf_of_refusalOf h, Engine.raiseError_eq_errorRecorded]
  rfl

/-! ## The padding (R146) -/

theorem padTail_eq (n : Nat) :
    padTail n = [0x80] ++ zeros ((119 - n % 64) % 64) ++ be64 (BitVec.ofNat 64 (8 * n)) := by
  rw [padTail, padZeros_eq]

/-- The unfinished block of an `n`-byte message and its padding are one block, or two when the length does not fit. -/
theorem length_append_padTail {m : List Byte} {n : Nat} (h : m.length = n % 64) :
    (m ++ padTail n).length = if n % 64 ≤ 55 then 64 else 128 := by
  rw [padTail_eq]
  simp only [List.length_append, List.length_singleton, zeros_length, be64_length, h]
  split <;> omega

/-- A block made from at most 64 bytes is these bytes and zeros. -/
theorem toList_toBlock {m : List Byte} (h : m.length ≤ 64) : (toBlock m).toList = m ++ zeros (64 - m.length) := by
  apply List.ext_getElem
  · simp [h]
  · intro i hi _
    rw [Vector.getElem_toList, toBlock_getElem]
    by_cases hm : i < m.length
    · simp [hm, List.getElem_append_left hm]
    · rw [List.getElem_append_right (by omega)]
      simp [zeros, hm]

/-- A length that wraps, as KLEN does, is still the length modulo a block: 64 divides 2^64. -/
theorem toNat_add_one_mod_block (n : DWord) : (n + 1).toNat % 64 = (n.toNat + 1) % 64 := by
  rw [BitVec.toNat_add]
  exact Nat.mod_mod_of_dvd _ (by decide)

namespace Engine

variable {e e' : Engine} {key : List Byte}

/-! ## The append primitive (R102) -/

theorem appendByte_kbuf_getD (e : Engine) (b : Byte) {i : Nat} (hi : i < 64) :
    (e.appendByte b).kbuf.toList.getD i 0 =
      if i = e.klen.toNat % 64 then b
      else if e.klen.toNat % 64 = 0 ∧ 0 < e.klen.toNat then 0
      else e.kbuf.toList.getD i 0 := by
  rw [List.getD_eq_getElem _ _ (by simpa using hi), List.getD_eq_getElem _ _ (by simpa using hi),
    Vector.getElem_toList, Vector.getElem_toList, appendByte_kbuf, Vector.getElem_set]
  by_cases hpos : e.klen.toNat % 64 = i
  · rw [if_pos hpos, if_pos hpos.symm]
  · rw [if_neg hpos, if_neg (Ne.symm hpos)]
    split
    · exact Vector.getElem_replicate ..
    · rfl

/-! ## Key writes -/

/-- A key write that passes the checks of R102 appends all its bytes. -/
theorem keyAppend_of_room (bs : List Byte) (hidle : e.busy = false) (hloading : e.kstate = .loading)
    (hroom : e.klen.toNat + bs.length ≤ 2 ^ 61 - 1) : e.keyAppend bs = e.appendBytes bs := by
  have hlen : ¬ Config.keyLenMax < e.klen.toNat + bs.length := Nat.not_lt.2 hroom
  rw [keyAppend, if_neg (by rw [hidle]; decide), if_neg (not_not_intro hloading), if_neg hlen]

/-! ## The completions -/

theorem engineStep_keyClear (hbusy : e.busy = true) (hjob : e.job = .keyClear) :
    e.engineStep = e.keyClearComplete.finishJob := by
  rw [engineStep, if_pos hbusy, completeJob_keyClear hjob]

theorem engineStep_keyFinal (hbusy : e.busy = true) (hjob : e.job = .keyFinal) :
    e.engineStep = e.keyFinalComplete.finishJob := by
  rw [engineStep, if_pos hbusy, completeJob_keyFinal hjob]

theorem Loading.ready_engineStep (h : e.Loading key) (hbusy : e.busy = true) (hjob : e.job = .keyFinal) :
    e.engineStep.Ready key := by
  rw [engineStep_keyFinal hbusy hjob]
  exact h.keyFinalComplete.of_keyElements_eq rfl

/-- The bytes of the key after its last whole block. -/
theorem length_drop_wholeBlocks (key : List Byte) : (key.drop (64 * (key.length / 64))).length = key.length % 64 := by
  rw [List.length_drop]
  omega

/-! ## KSTATE (R101) -/

/-- No transaction but the reset changes KSTATE. -/
theorem TransactionStep.kstate (hstep : e.TransactionStep e') : e'.kstate = e.kstate ∨ e' = Engine.reset := by
  cases hstep with
  | reset => exact .inr rfl
  | error c => exact .inl (raiseError_kstate c e)
  | append bs => exact .inl (appendBytes_kstate e bs)
  | _ => exact .inl rfl

/-- The two completions that change KSTATE. -/
theorem TurnStep.kstate (hstep : e.TurnStep e') :
    e'.kstate = e.kstate ∨ (e.busy = true ∧ e.job = .keyClear ∧ e'.kstate = .loading) ∨
      (e.busy = true ∧ e.job = .keyFinal ∧ e'.kstate = .ready) := by
  cases hstep with
  | keyClear hbusy hjob => exact .inr (.inl ⟨hbusy, hjob, rfl⟩)
  | keyFinal hbusy hjob => exact .inr (.inr ⟨hbusy, hjob, rfl⟩)
  | _ => exact .inl (by simp)

end Engine

/-- Settles O50: KEY_CLEAR leaves the stream of no bytes, and each appended byte keeps the stream that of the longer key. -/
theorem keyWritesExtendTheKey : Obligations.KeyWritesExtendTheKey := by
  refine ⟨fun e hbusy hjob => ?_, fun s key d h hidle hroom => ?_, fun s key d h hidle hroom => ?_⟩
  · rw [Engine.engineStep_keyClear hbusy hjob]
    exact (Engine.loading_keyClearComplete e).of_keyElements_eq rfl
  · refine ⟨_, exec_eq _ s, ?_⟩
    rw [engineAfter, Engine.keyAppend_of_room _ hidle h.kstate (h.klen.symm ▸ hroom)]
    exact h.appendBytes _ (by change key.length + 4 < _; omega)
  · refine ⟨_, exec_eq _ s, ?_⟩
    rw [engineAfter, Engine.keyAppend_of_room _ hidle h.kstate (h.klen.symm ▸ hroom)]
    exact h.appendBytes _ (by change key.length + 1 < _; omega)

/-- Settles O51: the streamed chaining value and KBUF are those of the whole key, so K0 is the block R150 forms of it. -/
theorem keyFinalFormsHmacKeyBlock : Obligations.KeyFinalFormsHmacKeyBlock := fun _ _ => Engine.Loading.ready_engineStep

/-- Settles O27: the position and the block it falls in decide each byte of KBUF; KLEN wraps at a multiple of 64. -/
theorem appendByteFillsAndCompresses : Obligations.AppendByteFillsAndCompresses := by
  refine fun e b => ⟨fun i => e.appendByte_kbuf_getD b, e.appendByte_klen b, ?_, e.appendByte_frame b⟩
  rw [Engine.appendByte_kh, toNat_add_one_mod_block]

/-- Settles O28: the outcomes are those of R311, and the padded rest of the stream is one block or two. -/
theorem keyFinalStartsAndCompletes : Obligations.KeyFinalStartsAndCompletes := by
  refine ⟨fun s => ⟨fun hbusy => ?_, fun hidle hkstate => ?_, fun hidle hloading => ?_⟩, ?_⟩
  · exact exec_of_refusalOf (c := .busy) (by simp [refusalOf, hbusy])
  · exact exec_of_refusalOf (c := .keyState) (by simp [refusalOf, hidle, hkstate])
  · rw [exec_eq]
    simp [engineAfter, responseOf, hidle, hloading, State.afterWrite, Engine.startJob_eq]
  · intro e hbusy hjob
    have hp : e.kbuf.toList.take (e.klen.toNat % 64) ++ [0x80] ++ zeros ((119 - e.klen.toNat % 64) % 64) ++
        be64 (BitVec.ofNat 64 (8 * e.klen.toNat)) =
          e.kbuf.toList.take (e.klen.toNat % 64) ++ padTail e.klen.toNat := by
      simp only [padTail_eq, List.append_assoc]
    simp only [hp]
    constructor
    · rw [length_append_padTail (by simp; omega)]
      split
      · exact .inl rfl
      · exact .inr rfl
    · rw [Engine.engineStep_keyFinal hbusy hjob]
      simp only [Engine.keyFinalComplete, Engine.finalK0, Engine.finalHash, Engine.finishJob]

/-- Settles O47: the turn changes KSTATE only as one of the two completions, and a transaction only as the reset. -/
theorem keyStateTransitions : Obligations.KeyStateTransitions := by
  intro s t hinv hstep
  rcases step_eng_cases hstep with hreset | ⟨hnow, hturn⟩ | htransaction
  · exact .inr (.inr (.inr ⟨hreset, hreset ▸ rfl⟩))
  · rw [hturn]
    rcases s.eng.turnStep_engineStep.kstate with hkeep | ⟨hbusy, hjob, hloading⟩ | ⟨hbusy, hjob, hready⟩
    · exact .inl hkeep
    · exact .inr (.inl ⟨hnow, hbusy, hjob, hloading⟩)
    · exact .inr (.inr (.inl ⟨hnow, hbusy, hjob, hinv.final_loading hjob, hready⟩))
  · exact htransaction.kstate.imp_right fun hreset => .inr (.inr ⟨hreset, hreset ▸ rfl⟩)

/-- Settles O52: K0 is the key block of R150, and the rest of the key with its padding is one block or two. -/
theorem keyBlockByLengthClass : Obligations.KeyBlockByLengthClass := by
  intro e key h hbusy hjob
  have hlen := length_append_padTail (Engine.length_drop_wholeBlocks key)
  rw [(h.ready_engineStep hbusy hjob).k0, k0Of]
  refine ⟨fun hzero => ?_, fun _ hshort => ?_, fun hlong => ?_, fun hone => ?_, fun htwo => ?_⟩
  · rw [List.length_eq_zero_iff.1 hzero]
    exact toBlock_nil
  · rw [if_pos hshort, toList_toBlock hshort]
  · rw [if_neg (Nat.not_le.2 hlong), toList_toBlock (by simp)]
    simp
  · rw [hlen, if_pos hone]
  · rw [hlen, if_neg (by omega)]

/-- Settles O24: the two outcomes are those of R311, and the completion writes the key elements and ends the job. -/
theorem keyClearStartsAndCompletes : Obligations.KeyClearStartsAndCompletes := by
  refine ⟨fun s hidle => ?_, fun s hbusy => ?_, fun e hbusy hjob => ?_⟩
  · rw [exec_eq]
    simp [engineAfter, responseOf, hidle, State.afterWrite, Engine.startJob_eq]
  · exact exec_of_refusalOf (c := .busy) (by simp [refusalOf, hbusy])
  · rw [Engine.engineStep_keyClear hbusy hjob]
    rfl

/-- The outcomes of an instruction that is a key write, in the order of their checks (R102). -/
theorem keyWrite_outcomes {i : Instr} {s : State} {bs : List Byte}
    (hexec : exec i s = .next (s.afterWrite (s.eng.keyAppend bs))) :
    (s.eng.busy = true → exec i s = .next (s.afterError 2)) ∧
    (s.eng.busy = false → s.eng.kstate ≠ .loading → exec i s = .next (s.afterError 3)) ∧
    (s.eng.busy = false → s.eng.kstate = .loading → 2 ^ 61 - 1 < s.eng.klen.toNat + bs.length →
      exec i s = .next (s.afterError 6)) ∧
    (s.eng.busy = false → s.eng.kstate = .loading → s.eng.klen.toNat + bs.length ≤ 2 ^ 61 - 1 →
      exec i s = .next (s.afterWrite (s.eng.appendBytes bs))) := by
  rw [hexec]
  refine ⟨fun hbusy => ?_, fun hidle hkstate => ?_, fun hidle hloading hfull => ?_, fun hidle hloading hroom => ?_⟩
  · rw [Engine.keyAppend, if_pos hbusy, Engine.raiseError_eq_errorRecorded]
    rfl
  · rw [Engine.keyAppend, if_neg (by rw [hidle]; decide), if_pos hkstate, Engine.raiseError_eq_errorRecorded]
    rfl
  · have hlen : Config.keyLenMax < s.eng.klen.toNat + bs.length := hfull
    rw [Engine.keyAppend, if_neg (by rw [hidle]; decide), if_neg (not_not_intro hloading), if_pos hlen,
      Engine.raiseError_eq_errorRecorded]
    rfl
  · rw [Engine.keyAppend_of_room bs hidle hloading hroom]

/-- Settles O25: the instruction is the key write of the four bytes of DATA, the highest first. -/
theorem keyWordWriteAppendsFourBytes : Obligations.KeyWordWriteAppendsFourBytes := fun _ d =>
  keyWrite_outcomes (i := .wrKeyWord d) (bs := operandKeyWord d) rfl

/-- Settles O26: the instruction is the key write of the low byte of DATA. -/
theorem keyByteWriteAppendsOneByte : Obligations.KeyByteWriteAppendsOneByte := fun _ d =>
  keyWrite_outcomes (i := .wrKeyByte d) (bs := operandKeyByte d) rfl

end Sys2Proof.Machine
end

section
/-! PROOF. No key byte can be read back (40_key.md R112): every step of the machine commutes with blanking the key material,
the completion of a HOTP job apart. -/

namespace Sys2Proof.Machine

/-! ## The machine as a host sees it -/

/-- The machine with its key material blanked. -/
def State.withoutKey (s : State) : State := { s with eng := s.eng.withoutKey }

/-- An outcome with the key material of the next state blanked. -/
def resultWithoutKey : Result → Result
  | .next s => .next s.withoutKey
  | .fault r => .fault r
  | .refused r => .refused r

@[simp] theorem resultWithoutKey_next (s : State) : resultWithoutKey (.next s) = .next s.withoutKey := rfl

theorem State.withoutKey_eq_iff {s t : State} : s.withoutKey = t.withoutKey ↔
    s.eng.withoutKey = t.eng.withoutKey ∧ s.rstN = t.rstN ∧ s.resp = t.resp ∧ s.inputs = t.inputs := by
  simp only [State.withoutKey, State.mk.injEq]

/-- An outcome that is a next state but for key material is one. -/
theorem resultWithoutKey_eq_next {r : Result} {t : State} (h : resultWithoutKey r = .next t.withoutKey) :
    ∃ u : State, r = .next u ∧ t.withoutKey = u.withoutKey := by
  cases r with
  | next u => exact ⟨u, rfl, (Host.Outcome.next.inj h).symm⟩
  | fault => cases h
  | refused => cases h

namespace Engine

@[simp] theorem withoutKey_withoutKey (e : Engine) : e.withoutKey.withoutKey = e.withoutKey := rfl

theorem raiseError_withoutKey (c : ErrorCode) (e : Engine) :
    e.withoutKey.raiseError c = (e.raiseError c).withoutKey := by
  rw [raiseError_eq, raiseError_eq]
  rfl

/-- Blanking forgets exactly what a key write does to KBUF and KH (R102). -/
theorem appendBytes_withoutKey (e : Engine) (bs : List Byte) :
    (e.withoutKey.appendBytes bs).withoutKey = (e.appendBytes bs).withoutKey := by
  rw [appendBytes_frame, appendBytes_frame e]
  rfl

theorem keyAppend_withoutKey (e : Engine) (bs : List Byte) :
    (e.withoutKey.keyAppend bs).withoutKey = (e.keyAppend bs).withoutKey := by
  simp only [keyAppend, apply_ite withoutKey, raiseError_withoutKey, appendBytes_withoutKey]
  rfl

/-- No instruction's effect on the visible elements reads the key material. -/
theorem engineAfter_withoutKey (i : Instr) (e : Engine) :
    (engineAfter i e.withoutKey).withoutKey = (engineAfter i e).withoutKey := by
  cases i
  case wrKeyWord => exact keyAppend_withoutKey e _
  case wrKeyByte => exact keyAppend_withoutKey e _
  case cmdNop | cmdKeyClear | cmdKeyFinal | cmdHotp | cmdIllegal =>
    simp only [engineAfter, apply_ite withoutKey, raiseError_withoutKey]
    rfl
  all_goals rfl

/-- No response shows key material. -/
theorem responseOf_withoutKey (i : Instr) (e : Engine) : responseOf i e.withoutKey = responseOf i e := by
  cases i <;> rfl

/-- The turn, HOTP's completion apart, writes no visible element from the key material (R104, R108). -/
theorem engineStep_withoutKey {e : Engine} (h : ¬ (e.busy = true ∧ e.job = .hotp)) :
    e.withoutKey.engineStep.withoutKey = e.engineStep.withoutKey := by
  cases hbusy : e.busy with
  | false =>
    have hidle : ¬ e.busy = true := by rw [hbusy]; decide
    rw [engineStep, engineStep, if_neg hidle, if_neg (show ¬ e.withoutKey.busy = true from hidle)]
    rfl
  | true =>
    rw [engineStep, engineStep, if_pos hbusy, if_pos (show e.withoutKey.busy = true from hbusy)]
    cases hjob : e.job with
    | none =>
      rw [completeJob_none hjob, completeJob_none (e := e.withoutKey) hjob]
      rfl
    | keyClear =>
      rw [completeJob_keyClear hjob, completeJob_keyClear (e := e.withoutKey) hjob]
      rfl
    | keyFinal =>
      rw [completeJob_keyFinal hjob, completeJob_keyFinal (e := e.withoutKey) hjob]
      simp only [keyFinalComplete, finishJob, withoutKey]
    | hotp => exact absurd ⟨hbusy, hjob⟩ h

end Engine

/-! ## One step -/

theorem exec_withoutKey (i : Instr) (s : State) :
    resultWithoutKey (exec i s.withoutKey) = resultWithoutKey (exec i s) := by
  simp only [exec_eq, resultWithoutKey_next, State.withoutKey, Engine.engineAfter_withoutKey,
    Engine.responseOf_withoutKey]

theorem engineTurn_withoutKey {s : State} (h : s.rstN = true → ¬ (s.eng.busy = true ∧ s.eng.job = .hotp)) :
    resultWithoutKey (engineTurn s.withoutKey) = resultWithoutKey (engineTurn s) := by
  cases hrst : s.rstN with
  | false => simp [engineTurn, State.withoutKey, hrst]
  | true => simp [engineTurn, State.withoutKey, hrst, Engine.engineStep_withoutKey (h hrst)]

theorem hostTransaction_withoutKey (t : TWord) (s : State) :
    resultWithoutKey (hostTransaction t s.withoutKey) = resultWithoutKey (hostTransaction t s) := by
  unfold hostTransaction
  rw [apply_ite resultWithoutKey, apply_ite resultWithoutKey, exec_withoutKey]
  rfl

theorem hostAccess_withoutKey (w : Bool) (size : Size) (addr : Nat) (wdata : Word) (s : State) :
    resultWithoutKey (hostAccess w size addr wdata s.withoutKey) =
      resultWithoutKey (hostAccess w size addr wdata s) := by
  unfold hostAccess
  cases accessWord w size addr wdata with
  | none => rfl
  | some t => exact hostTransaction_withoutKey t s

theorem runInput_withoutKey {i : Input} {s : State}
    (h : i = .engineTurn → s.rstN = true → ¬ (s.eng.busy = true ∧ s.eng.job = .hotp)) :
    resultWithoutKey (runInput i s.withoutKey) = resultWithoutKey (runInput i s) := by
  cases i with
  | transaction t => exact hostTransaction_withoutKey t s
  | access w size addr wdata => exact hostAccess_withoutKey w size addr wdata s
  | engineTurn => exact engineTurn_withoutKey (h rfl)
  | resetAssert => rfl
  | resetRelease => rfl

/-- A step on a machine with its key material blanked ends as on the machine itself, but for key material. -/
theorem step_withoutKey {s : State} (h : ¬ (s.engineTurnNow = true ∧ s.eng.busy = true ∧ s.eng.job = .hotp)) :
    resultWithoutKey (step s.withoutKey) = resultWithoutKey (step s) := by
  have hinputs : s.withoutKey.inputs = s.inputs := rfl
  unfold step nextStep
  rw [hinputs]
  cases hin : s.inputs with
  | nil => exact engineTurn_withoutKey fun hrst hhotp => h ⟨by simp [State.engineTurnNow, hrst, hin], hhotp⟩
  | cons i rest =>
    refine runInput_withoutKey (s := { s with inputs := rest }) fun hi hrst hhotp => h ⟨?_, hhotp⟩
    have hrst : s.rstN = true := hrst
    simp [State.engineTurnNow, hrst, hin, hi]

/-- Settles O49: the two machines blank to the same one, and so do the states after the step; a response, the pin, the
inputs and the IRQ level are read off the blanked state. -/
theorem keyMaterialIsNotVisible : Obligations.KeyMaterialIsNotVisible := by
  intro s₁ s₂ t₁ hinputs hrst hresp heng hturn hstep
  have hs : s₁.withoutKey = s₂.withoutKey := State.withoutKey_eq_iff.2 ⟨heng, hrst, hresp, hinputs⟩
  have hturn₂ : ¬ (s₂.engineTurnNow = true ∧ s₂.eng.busy = true ∧ s₂.eng.job = .hotp) := by
    have hbusy : s₁.eng.busy = s₂.eng.busy := (congrArg Engine.busy heng :)
    have hjob : s₁.eng.job = s₂.eng.job := (congrArg Engine.job heng :)
    rwa [State.engineTurnNow, hinputs, hrst, hbusy, hjob] at hturn
  have hblank : resultWithoutKey (step s₂) = .next t₁.withoutKey := by
    rw [← step_withoutKey hturn₂, ← hs, step_withoutKey hturn, hstep, resultWithoutKey_next]
  obtain ⟨t₂, hstep₂, ht⟩ := resultWithoutKey_eq_next hblank
  obtain ⟨heng', hrst', hresp', hinputs'⟩ := State.withoutKey_eq_iff.1 ht
  exact ⟨t₂, hstep₂, hresp', hrst', hinputs', heng', (congrArg Engine.irq heng' :)⟩

end Sys2Proof.Machine
end

section
/-! PROOF. The hash core (41_sha1_hmac.md R146, R154): the length of a padded message, and the HMAC of a short message as
four compressions. -/

namespace Sys2Proof.Machine

/-! ## The padded length (R146) -/

/-- The zero bytes fill the last block up to its eight length bytes. -/
theorem padZeros_add_mod (n : Nat) : (padZeros n + n) % 64 = 55 := by
  rw [padZeros_eq]
  omega

theorem padZeros_lt (n : Nat) : padZeros n < 64 := by
  rw [padZeros_eq]
  exact Nat.mod_lt _ (by decide)

theorem pad_eq (m : List Byte) :
    pad m = m ++ [0x80] ++ zeros (padZeros m.length) ++ be64 (BitVec.ofNat 64 (8 * m.length)) := by
  simp only [pad, padTail, List.append_assoc]

theorem pad_length (m : List Byte) : (pad m).length = m.length + 9 + padZeros m.length := by
  simp only [pad_eq, List.length_append, List.length_singleton, zeros_length, be64_length]
  omega

/-- Settles O33: the zero bytes are fewer than a block, and with the nine fixed bytes they complete one. -/
theorem paddingIsLeastMultiple : Obligations.PaddingIsLeastMultiple := by
  intro m
  have hlt := padZeros_lt m.length
  have hmod := padZeros_add_mod m.length
  refine ⟨⟨padZeros m.length, hlt, hmod, pad_eq m⟩, ?_, ?_, ?_⟩ <;> rw [pad_length] <;> omega

/-! ## A block and a short message (R154) -/

/-- SHA-1 of one whole block and a message that leaves room for its padding is two compressions. -/
theorem sha1_block_append (b : Block) {m : List Byte} (hm : m.length ≤ 55) :
    sha1 (b.toList ++ m) =
      hashBytes (compress (compress sha1Init b) (toBlock (m ++ padTail (64 + m.length)))) := by
  have hpad : pad (b.toList ++ m) = b.toList ++ (m ++ padTail (64 + m.length)) := by
    rw [pad, List.append_assoc, List.length_append, Vector.length_toList]
  have hlast : (m ++ padTail (64 + m.length)).length = 64 := by
    rw [length_append_padTail (by omega), if_pos (by omega)]
  rw [sha1, hpad, absorb_append _ _ _ (by simp), absorb_block _ b.toList (by simp), toBlock_toList,
    absorb_block _ _ hlast]

/-- The padding of the inner message: a block and the eight counter bytes (R154). -/
theorem padTail_block_counter : padTail (64 + 8) = [0x80] ++ zeros 47 ++ be64 576 := padTail_eq (64 + 8)

/-- The padding of the outer message: a block and the twenty digest bytes (R154). -/
theorem padTail_block_digest : padTail (64 + 20) = [0x80] ++ zeros 35 ++ be64 672 := padTail_eq (64 + 20)

theorem innerHash_be64 (k0 : Block) (c : DWord) :
    innerHash k0 (be64 c) = hashBytes (compress (compress sha1Init (xorBlock k0 ipad))
      (toBlock (be64 c ++ [0x80] ++ zeros 47 ++ be64 576))) := by
  rw [innerHash, sha1_block_append _ (by simp), be64_length, padTail_block_counter]
  simp only [List.append_assoc]

/-- Settles O34: the inner and the outer message are each one block and a message short enough for one more. -/
theorem hotpHmacIsFourCompressions : Obligations.HotpHmacIsFourCompressions := by
  intro k0 c
  rw [hmacOfBlock, sha1_block_append _ (by simp), Vector.length_toList, padTail_block_digest, innerHash_be64,
    hotpCompressions]
  simp only [List.append_assoc]

end Sys2Proof.Machine
end

section
/-! PROOF. The HOTP command (42_hotp.md R180 to R190): the issue, the completion and its results, transactions while a job is
pending, and the host's Password and counters. -/

namespace Sys2Proof.Machine

/-! ## Truncation, reduction and BCD as numbers (R182 to R185) -/

theorem digest_toList_getD (dg : Digest) {i : Nat} (hi : i < 20) : dg.toList.getD i 0 = dg[i] := by
  rw [List.getD_eq_getElem _ _ (by simpa using hi), Vector.getElem_toList]

/-- The mask keeps the value modulo 2^31 (R183). -/
theorem maskWindow_toNat (raw : Word) : (maskWindow raw).toNat = raw.toNat % 2 ^ 31 := by
  rw [maskWindow, BitVec.toNat_setWidth, BitVec.toNat_and]
  exact (Nat.mod_eq_of_lt (Nat.and_lt_two_pow _ (by decide))).trans (Nat.and_two_pow_sub_one_eq_mod raw.toNat 31)

theorem truncWindow_toNat (dg : Digest) (off : BitVec 4) :
    (truncWindow dg off).toNat =
      (dg.toList.getD off.toNat 0).toNat * 2 ^ 24 + (dg.toList.getD (off.toNat + 1) 0).toNat * 2 ^ 16 +
        (dg.toList.getD (off.toNat + 2) 0).toNat * 2 ^ 8 + (dg.toList.getD (off.toNat + 3) 0).toNat := by
  have hoff := off.isLt
  rw [truncWindow, be32_toNat, digest_toList_getD dg (by omega), digest_toList_getD dg (by omega),
    digest_toList_getD dg (by omega), digest_toList_getD dg (by omega)]

/-- The reduced value is exact: a 31-bit value fits OTP (R184). -/
theorem reduceDigits_toNat (tr : BitVec 31) (d : BitVec 4) :
    (reduceDigits tr d).toNat = tr.toNat % 10 ^ d.toNat := by
  have hle : tr.toNat % 10 ^ d.toNat ≤ tr.toNat := Nat.mod_le _ _
  have hlt := tr.isLt
  rw [reduceDigits, BitVec.toNat_ofNat, Nat.mod_eq_of_lt (by omega)]

/-- The low `n` decimal digits of a number are the number modulo 10^n. -/
theorem sum_decimal_digits (x n : Nat) : ∑ i ∈ Finset.range n, x / 10 ^ i % 10 * 10 ^ i = x % 10 ^ n := by
  induction n with
  | zero => simp [Nat.mod_one]
  | succ n ih => rw [Finset.sum_range_succ, ih, Nat.mod_pow_succ, Nat.mul_comm]

theorem bcdOf_le_nine (v : Word) (i : Fin 9) : (bcdOf v)[i].toNat ≤ 9 := by
  rw [bcdOf_getElem_toNat]
  omega

/-- A value below 10^d has no digit from place `d` on (R188). -/
theorem bcdOf_eq_zero {v : Word} {d : Nat} (hv : v.toNat < 10 ^ d) {i : Fin 9} (hi : d ≤ i.val) : (bcdOf v)[i] = 0 := by
  apply BitVec.eq_of_toNat_eq
  rw [bcdOf_getElem_toNat, Nat.div_eq_of_lt (hv.trans_le (Nat.pow_le_pow_right (by decide) hi))]
  rfl

/-- Nine digits are the whole decimal of a value below 10^9 (R185). -/
theorem bcdOf_decimal {v : Word} (hv : v.toNat < 10 ^ 9) :
    (bcdOf v)[0].toNat + (bcdOf v)[1].toNat * 10 + (bcdOf v)[2].toNat * 10 ^ 2 + (bcdOf v)[3].toNat * 10 ^ 3 +
      (bcdOf v)[4].toNat * 10 ^ 4 + (bcdOf v)[5].toNat * 10 ^ 5 + (bcdOf v)[6].toNat * 10 ^ 6 +
      (bcdOf v)[7].toNat * 10 ^ 7 + (bcdOf v)[8].toNat * 10 ^ 8 = v.toNat := by
  have hsum : ∑ i : Fin 9, (bcdOf v)[i].toNat * 10 ^ i.val = v.toNat := by
    simp only [bcdOf_getElem_toNat]
    rw [Fin.sum_univ_eq_sum_range (fun i => v.toNat / 10 ^ i % 10 * 10 ^ i), sum_decimal_digits, Nat.mod_eq_of_lt hv]
  simpa [Fin.sum_univ_succ, ← Nat.add_assoc] using hsum

namespace Engine

/-! ## The completion (R181) -/

variable {e e' : Engine} {key : List Byte}

theorem engineStep_hotp (hbusy : e.busy = true) (hjob : e.job = .hotp) : e.engineStep = e.hotpComplete.finishJob := by
  rw [engineStep, if_pos hbusy, completeJob_hotp hjob]

/-- The results of a completed HOTP job, from K0, JOB_COUNTER and JOB_DIGITS (R181 to R185). -/
theorem engineStep_hotp_results (hbusy : e.busy = true) (hjob : e.job = .hotp) :
    e.engineStep.digest = hmacOfBlock e.k0 (be64 e.jobCounter) ∧
      e.engineStep.offset = truncOffset e.engineStep.digest ∧
      e.engineStep.trunc = truncate e.engineStep.digest ∧
      e.engineStep.otp = reduceDigits e.engineStep.trunc e.jobDigits ∧
      e.engineStep.bcd = bcdOf e.engineStep.otp := by
  rw [engineStep_hotp hbusy hjob]
  simp only [finishJob, hotpComplete, withResults, and_self]

/-- The completion changes the five results and ends the job (R181, R42). -/
theorem engineStep_hotp_frame (hbusy : e.busy = true) (hjob : e.job = .hotp) :
    e.engineStep = { e with
      digest := e.engineStep.digest
      offset := e.engineStep.offset
      trunc := e.engineStep.trunc
      otp := e.engineStep.otp
      bcd := e.engineStep.bcd
      job := .none
      busy := false
      done := true } := by
  rw [engineStep_hotp hbusy hjob]
  simp only [finishJob, hotpComplete, withResults]

/-- A HOTP completion keeps the key. -/
theorem Ready.engineStep_hotp (h : e.Ready key) (hbusy : e.busy = true) (hjob : e.job = .hotp) :
    e.engineStep.Ready key := by
  rw [Engine.engineStep_hotp hbusy hjob]
  exact h.of_keyElements_eq (by simp [keyElements])

/-! ## Transactions while a job is pending (R42, R187) -/

/-- The elements that say which job is pending and what it was issued with. -/
def jobElements (e : Engine) : Bool × Job × DWord × BitVec 4 := (e.busy, e.job, e.jobCounter, e.jobDigits)

theorem jobElements_eq_iff : e'.jobElements = e.jobElements ↔
    e'.busy = e.busy ∧ e'.job = e.job ∧ e'.jobCounter = e.jobCounter ∧ e'.jobDigits = e.jobDigits := by
  simp only [jobElements, Prod.mk.injEq]

theorem raiseError_jobElements (c : ErrorCode) (e : Engine) : (e.raiseError c).jobElements = e.jobElements := by
  simp [jobElements]

/-- No instruction but the reset touches a pending job or its key: one that could is refused with ERR_BUSY (R311). -/
theorem engineAfter_of_busy {i : Instr} (hbusy : e.busy = true) (hi : i ≠ .cmdSoftReset) :
    (engineAfter i e).jobElements = e.jobElements ∧ (engineAfter i e).keyElements = e.keyElements := by
  cases i
  case cmdSoftReset => exact absurd rfl hi
  case cmdNop | cmdKeyClear | cmdKeyFinal | cmdHotp | cmdIllegal | wrKeyWord | wrKeyByte =>
    rw [engineAfter_of_refusalOf (c := .busy)]
    · exact ⟨raiseError_jobElements _ e, raiseError_keyElements _ e⟩
    · exact if_pos hbusy
  all_goals exact ⟨rfl, rfl⟩

end Engine

/-- Transactions but SOFT_RESET, taken from the inputs while a job is pending, leave the job and the key: the run goes on
from such a state. -/
theorem run_pending_transactions {s : State} {ts : List TWord} {rest : List Input} (hrst : s.rstN = true)
    (hbusy : s.eng.busy = true) (hts : ∀ tw ∈ ts, decode tw ≠ .cmdSoftReset)
    (hin : s.inputs = ts.map .transaction ++ rest) :
    ∃ t : State, (∀ k, Host.Core.run Sys2Proof.core (ts.length + k) s = Host.Core.run Sys2Proof.core k t) ∧
      t.rstN = true ∧ t.inputs = rest ∧ t.eng.jobElements = s.eng.jobElements ∧
      t.eng.keyElements = s.eng.keyElements := by
  induction ts generalizing s with
  | nil => exact ⟨s, fun k => by rw [List.length_nil, Nat.zero_add], hrst, hin, rfl, rfl⟩
  | cons tw ts ih =>
    have hstep := (step_transaction hrst hin).trans (exec_eq _ _)
    obtain ⟨hjob, hkey⟩ := Engine.engineAfter_of_busy hbusy (hts tw List.mem_cons_self)
    obtain ⟨hbusy', _⟩ := Engine.jobElements_eq_iff.1 hjob
    obtain ⟨t, hrun, hrst', hin', hjob', hkey'⟩ := ih (s := { s with
        eng := engineAfter (decode tw) s.eng
        resp := some (responseOf (decode tw) s.eng)
        inputs := ts.map .transaction ++ rest })
      hrst (hbusy'.trans hbusy) (fun tw' h => hts tw' (List.mem_cons_of_mem _ h)) rfl
    refine ⟨t, fun k => ?_, hrst', hin', hjob'.trans hjob, hkey'.trans hkey⟩
    rw [List.length_cons, Nat.add_right_comm, run_succ _ hstep]
    exact hrun k

/-! ## The issue (R180) -/

theorem mem_illegalDigits_iff (d : BitVec 4) :
    d ∈ ([0, 10, 11, 12, 13, 14, 15] : List (BitVec 4)) ↔ d.toNat < 1 ∨ 9 < d.toNat := by
  revert d
  decide

/-- An idle machine with a key loaded and a legal digit count latches the operands and starts the job. -/
theorem exec_cmdHotp_of_legal {s : State} (hidle : s.eng.busy = false) (hready : s.eng.kstate = .ready)
    (hdigits : ¬ (s.eng.digits.toNat < 1 ∨ 9 < s.eng.digits.toNat)) :
    exec .cmdHotp s = .next (s.afterWrite
      { s.eng with jobCounter := s.eng.counter, jobDigits := s.eng.digits, job := .hotp, busy := true }) := by
  have hlegal : ¬ (!legalDigits s.eng.digits) = true := (not_legalDigits_iff _).not.2 hdigits
  rw [exec_eq, engineAfter, if_neg (by rw [hidle]; decide), if_neg (not_not_intro hready), if_neg hlegal]
  rfl

/-- Settles O29: the three refusals are those of R311, and otherwise the operands are latched and the job starts. -/
theorem hotpIssueChecksAndLatches : Obligations.HotpIssueChecksAndLatches := by
  refine fun s => ⟨fun hbusy => ?_, fun hidle hkstate => ?_, fun hidle hready hdigits => ?_,
    fun hidle hready hdigits => exec_cmdHotp_of_legal hidle hready ((mem_illegalDigits_iff _).not.1 hdigits)⟩
  · exact exec_of_refusalOf (c := .busy) (by simp [refusalOf, hbusy])
  · exact exec_of_refusalOf (c := .noKey) (by simp [refusalOf, hidle, hkstate])
  · have hillegal := (mem_illegalDigits_iff _).1 hdigits
    exact exec_of_refusalOf (c := .digits) (by simp [refusalOf, hidle, hready]; omega)

/-! ## The results of a completed job (R181, R185, R187, R188) -/

/-- Settles O30: each result is the number R182 to R185 give of the digest, and the completion writes nothing else. -/
theorem hotpCompletionWritesResults : Obligations.HotpCompletionWritesResults := by
  intro e hbusy hjob dg off raw t
  obtain ⟨hdigest, hoffset, htrunc, hotp, hbcd⟩ := Engine.engineStep_hotp_results hbusy hjob
  have hdg : t.digest = dg := hdigest
  have hoff : (truncOffset dg).toNat = off := by rw [truncOffset_toNat, ← digest_toList_getD dg (by decide)]
  rw [hdg] at hoffset htrunc
  refine ⟨hdg, by rw [hoffset, hoff], ?_, ?_, fun i => ?_, Engine.engineStep_hotp_frame hbusy hjob⟩
  · rw [htrunc, truncate, maskWindow_toNat, truncWindow_toNat, hoff]
  · rw [hotp, reduceDigits_toNat]
  · rw [hbcd, bcdOf_getElem_toNat]

/-- Settles O31: OTP is reduced below 10^d, and BCD is the decimal of a value below 10^9. -/
theorem hotpResultRanges : Obligations.HotpResultRanges := by
  intro e hbusy hjob _ hmax
  obtain ⟨_, _, _, hotp, hbcd⟩ := Engine.engineStep_hotp_results hbusy hjob
  have hlt : e.engineStep.otp.toNat < 10 ^ e.jobDigits.toNat := by
    rw [hotp, reduceDigits_toNat]
    exact Nat.mod_lt _ (Nat.pow_pos (by decide))
  have hnine : e.engineStep.otp.toNat < 10 ^ 9 := hlt.trans_le (Nat.pow_le_pow_right (by decide) hmax)
  refine ⟨Nat.le_of_lt_succ (BitVec.isLt _), Nat.le_of_lt_succ (BitVec.isLt _), hlt, ?_⟩
  rw [hbcd]
  exact ⟨bcdOf_le_nine _, fun _ => bcdOf_eq_zero hlt, bcdOf_decimal hnine⟩

/-- Settles O32: each result is a function of the three operands or of a result before it. -/
theorem hotpResultsDependOnLatchedOperandsOnly : Obligations.HotpResultsDependOnLatchedOperandsOnly := by
  intro e₁ e₂ hbusy₁ hjob₁ hbusy₂ hjob₂ hk0 hcounter hdigits
  rw [Engine.engineStep_hotp hbusy₁ hjob₁, Engine.engineStep_hotp hbusy₂ hjob₂]
  simp only [Engine.results, Engine.finishJob, Engine.hotpComplete, Engine.withResults, hk0, hcounter, hdigits]

/-! ## From the issue to the password -/

theorem decode_cmdHotp : decode 0x61000000003 = .cmdHotp := by decide

/-- The step of a host that issues a legal CMD.HOTP. -/
theorem step_cmdHotp_of_legal {s : State} {rest : List Input} (hrst : s.rstN = true)
    (hin : s.inputs = .transaction 0x61000000003 :: rest) (hidle : s.eng.busy = false) (hready : s.eng.kstate = .ready)
    (hdigits : ¬ (s.eng.digits.toNat < 1 ∨ 9 < s.eng.digits.toNat)) :
    ∃ t : State, step s = .next t ∧ t.rstN = true ∧ t.inputs = rest ∧ t.eng =
      { s.eng with jobCounter := s.eng.counter, jobDigits := s.eng.digits, job := .hotp, busy := true } := by
  have hstep := step_transaction hrst hin
  rw [decode_cmdHotp] at hstep
  exact ⟨_, hstep.trans (exec_cmdHotp_of_legal hidle hready hdigits), hrst, rfl, rfl⟩

/-- Settles O55: the issue latches the operands, the transactions keep job and key, and the engine's turn computes the
results from them. -/
theorem hotpComputesPasswordOfLoadedKey : Obligations.HotpComputesPasswordOfLoadedKey := by
  intro s key ts hrst hkey hidle hmin hmax hts hin
  obtain ⟨t, hissue, hrst, hin, heng⟩ := step_cmdHotp_of_legal hrst hin hidle hkey.kstate (by omega)
  obtain ⟨u, hrun, hrst, hin, hjobs, hkeys⟩ := run_pending_transactions hrst (by rw [heng]) hts hin
  rw [heng] at hjobs hkeys
  obtain ⟨hbusy, hjob, hcounter, hdigits⟩ := Engine.jobElements_eq_iff.1 hjobs
  have hready : u.eng.Ready key := hkey.of_keyElements_eq hkeys
  obtain ⟨v, hturn, hv⟩ : ∃ v : State, step u = .next v ∧ v.eng = u.eng.engineStep :=
    ⟨_, (engineTurnEndsPendingJob u [] hrst).1 hin, rfl⟩
  obtain ⟨_, hidle', hdone⟩ := Engine.engineStep_ends_job hbusy
  obtain ⟨hdigest, _, htrunc, hotp, hbcd⟩ := Engine.engineStep_hotp_results hbusy hjob
  have hhmac : u.eng.engineStep.digest = hmacSha1 key (be64 s.eng.counter) := by
    rw [hdigest, hready.k0, hcounter, hmacSha1]
  rw [hhmac] at htrunc
  refine ⟨v, ?_, ?_⟩
  · rw [run_succ _ hissue]
    exact (hrun 1).trans (run_one hturn)
  rw [hv]
  refine ⟨hhmac, htrunc, ?_, hbcd, hidle', hdone, hready.engineStep_hotp hbusy hjob⟩
  rw [hotp, reduceDigits_toNat, hdigits]

/-! ## Host software (R186, R189, R190) -/

/-- The ASCII character of a decimal digit. -/
theorem asciiDigit_toNat {b : BitVec 4} (hb : b.toNat ≤ 9) : ((0x30 : Byte) + b.setWidth 8).toNat = 0x30 + b.toNat := by
  have hwide : (b.setWidth 8).toNat = b.toNat := BitVec.toNat_setWidth_of_le (by decide)
  rw [BitVec.toNat_add, hwide]
  exact Nat.mod_eq_of_lt (show 0x30 + b.toNat < 2 ^ 8 by omega)

theorem totpCounter_of_pos {iv : Int} (h : 0 < iv) (t : Nat) : totpCounter t iv = some (t / iv.toNat) := if_pos h

theorem totpCounter_of_nonpos {iv : Int} (h : iv ≤ 0) (t : Nat) : totpCounter t iv = none := if_neg (Int.not_lt.2 h)

theorem password_length (d : Nat) (bcd : Vector (BitVec 4) 9) : (password d bcd).length = d := by
  rw [password, List.length_map, List.length_range]

theorem password_getD {d k : Nat} (bcd : Vector (BitVec 4) 9) (hk : k < d) :
    (password d bcd).getD k 0 = 0x30 + (bcd.toList.getD (d - 1 - k) 0).setWidth 8 := by
  rw [List.getD_eq_getElem _ _ (by rwa [password_length])]
  simp only [password, List.getElem_map, List.getElem_range]

/-- Settles O57: a character is the ASCII digit of its place, and `i` intervals later the counter is `i` more. -/
theorem hostPasswordAndCounters : Obligations.HostPasswordAndCounters := by
  refine ⟨password_length, fun d k bcd hd hk hbcd => ?_, fun t n iv hiv => ?_, fun t n i iv hiv hi => ?_⟩
  · have hplace : d - 1 - k < 9 := by omega
    rw [password_getD bcd hk, asciiDigit_toNat]
    rw [List.getD_eq_getElem _ _ (by simpa using hplace), Vector.getElem_toList]
    exact hbcd ⟨d - 1 - k, hplace⟩
  · rw [sequenceCounters, totpCounter_of_nonpos hiv]
    exact ⟨rfl, rfl⟩
  · rw [sequenceCounters, totpCounter_of_pos hiv, totpCounter_of_pos hiv, Nat.add_mul_div_right _ _ (by omega)]
    simp [hi]

end Sys2Proof.Machine
end

section
/-! PROOF. Register access (43_register_access.md): what each read returns, and what each write and each immediate
command leaves. -/

namespace Sys2Proof.Machine

/-! ## Fields of a register word

A register word is the union of fields, each a value moved to its place (R223, R225). -/

/-- A field has no bit outside its place. -/
theorem field_and_eq_zero {n : Nat} (x : BitVec n) {k : Nat} {m : Word}
    (hm : (BitVec.allOnes n).setWidth 32 <<< k &&& m = 0) : x.setWidth 32 <<< k &&& m = 0 := by
  have hx : x.setWidth 32 <<< k = x.setWidth 32 <<< k &&& (BitVec.allOnes n).setWidth 32 <<< k := by
    rw [← BitVec.shiftLeft_and_distrib, ← BitVec.setWidth_and, BitVec.and_allOnes]
  rw [hx, BitVec.and_assoc, hm]
  exact BitVec.and_zero

theorem toNat_mul_two_pow_lt {n : Nat} (x : BitVec n) (k : Nat) : x.toNat * 2 ^ k < 2 ^ (n + k) := by
  rw [Nat.pow_add]
  exact Nat.mul_lt_mul_of_pos_right x.isLt (Nat.two_pow_pos k)

/-- A field that fits the word weighs `2 ^ k`. -/
theorem field_toNat {n : Nat} (x : BitVec n) {k : Nat} (h : n + k ≤ 32) :
    (x.setWidth 32 <<< k).toNat = x.toNat * 2 ^ k := by
  have hlt : x.toNat * 2 ^ k < 2 ^ 32 := (toNat_mul_two_pow_lt x k).trans_le (Nat.pow_le_pow_right (by decide) h)
  rw [BitVec.toNat_shiftLeft, BitVec.toNat_setWidth_of_le (by omega), Nat.shiftLeft_eq, Nat.mod_eq_of_lt hlt]

theorem setWidth_and_eq_zero {n : Nat} (x : BitVec n) {m : Word} (hm : (BitVec.allOnes n).setWidth 32 &&& m = 0) :
    x.setWidth 32 &&& m = 0 := by
  rw [← BitVec.shiftLeft_zero (x.setWidth 32)]
  exact field_and_eq_zero x (by rwa [BitVec.shiftLeft_zero])

theorem or_and_eq_zero {v w m : Word} (hv : v &&& m = 0) (hw : w &&& m = 0) : (v ||| w) &&& m = 0 := by
  rw [BitVec.and_or_distrib_right, hv, hw]
  exact BitVec.or_zero

/-- A field joined below the lowest bit of a word is added to it. -/
theorem or_field_toNat {n : Nat} {v : Word} {a : Nat} (hv : v.toNat = a) (x : BitVec n) (k : Nat)
    (ha : 2 ^ (n + k) ∣ a) (h : n + k ≤ 32) : (v ||| x.setWidth 32 <<< k).toNat = a + x.toNat * 2 ^ k := by
  obtain ⟨q, hq⟩ := ha
  rw [BitVec.toNat_or, field_toNat x h, hv, hq, Nat.mul_comm, ← Nat.shiftLeft_eq,
    Nat.shiftLeft_add_eq_or_of_lt (toNat_mul_two_pow_lt x k)]

/-- The field of a word, in its place, is the word under the field's mask. -/
theorem extractLsb'_field (v : Word) (k n : Nat) :
    (v.extractLsb' k n).setWidth 32 <<< k = v &&& (BitVec.allOnes n).setWidth 32 <<< k := by
  ext i hi
  simp only [BitVec.getElem_and, BitVec.getElem_shiftLeft, BitVec.getElem_setWidth, BitVec.getLsbD_allOnes,
    BitVec.getLsbD_extractLsb']
  rcases Nat.lt_or_ge i k with hlt | hge
  · simp [hlt]
  · rw [Nat.add_sub_of_le hge]
    simp [Nat.not_lt.2 hge, BitVec.getLsbD_eq_getElem hi, Bool.and_comm]

theorem ofBool_getLsbD_eq_extractLsb' (v : Word) (k : Nat) : BitVec.ofBool (v.getLsbD k) = v.extractLsb' k 1 := by
  apply BitVec.eq_of_getLsbD_eq
  intro i hi
  obtain rfl : i = 0 := by omega
  simp

theorem ite_eq_toNat_mul (b : Bool) (n : Nat) : (if b then n else 0) = b.toNat * n := by
  cases b <;> simp

/-! ## The halves of a 64-bit register -/

theorem highHalf_toNat (v : DWord) : (highHalf v).toNat = v.toNat / 2 ^ 32 := by
  have hv := v.isLt
  rw [highHalf, BitVec.extractLsb'_toNat, Nat.shiftRight_eq_div_pow]
  omega

theorem lowHalf_toNat (v : DWord) : (lowHalf v).toNat = v.toNat % 2 ^ 32 := BitVec.extractLsb'_toNat ..

theorem joinHalves_toNat (hi lo : Word) : (joinHalves hi lo).toNat = hi.toNat * 2 ^ 32 + lo.toNat := by
  rw [joinHalves, BitVec.toNat_append, ← Nat.shiftLeft_add_eq_or_of_lt lo.isLt, Nat.shiftLeft_eq]

/-! ## The words of the registers (R220 to R248) -/

namespace Engine

theorem ctrlWord_toNat (e : Engine) :
    e.ctrlWord.toNat = e.errIe.toNat * 512 + e.doneIe.toNat * 256 + e.digits.toNat := by
  have herrIe := field_toNat (BitVec.ofBool e.errIe) (k := 9) (by decide)
  have hdoneIe := or_field_toNat herrIe (BitVec.ofBool e.doneIe) 8 (by omega) (by decide)
  have hdigits := or_field_toNat hdoneIe e.digits 0 (by omega) (by decide)
  rw [BitVec.shiftLeft_zero, Nat.pow_zero, Nat.mul_one, BitVec.toNat_ofBool, BitVec.toNat_ofBool] at hdigits
  exact hdigits

theorem statusWord_toNat (e : Engine) :
    e.statusWord.toNat = e.errcode.toNat * 256 + e.err.toNat * 32 + e.done.toNat * 16 + e.kstate.bits.toNat * 2 +
      e.busy.toNat := by
  have herrcode := field_toNat e.errcode (k := 8) (by decide)
  have herr := or_field_toNat herrcode (BitVec.ofBool e.err) 5 (by omega) (by decide)
  have hdone := or_field_toNat herr (BitVec.ofBool e.done) 4 (by omega) (by decide)
  have hkstate := or_field_toNat hdone e.kstate.bits 1 (by omega) (by decide)
  have hbusy := or_field_toNat hkstate (BitVec.ofBool e.busy) 0 (by omega) (by decide)
  rw [BitVec.shiftLeft_zero, Nat.pow_zero, Nat.mul_one, BitVec.toNat_ofBool, BitVec.toNat_ofBool,
    BitVec.toNat_ofBool] at hbusy
  exact hbusy

/-- The reserved bits of every register read 0 (R220). -/
theorem readReg_reserved (e : Engine) (r : Reg) : e.readReg r &&& ~~~ definedBits (some r) = 0 := by
  cases r
  case cmd | keyWord | keyByte => exact BitVec.zero_and
  case ctrl =>
    exact or_and_eq_zero (or_and_eq_zero (field_and_eq_zero _ (by decide)) (field_and_eq_zero _ (by decide)))
      (setWidth_and_eq_zero _ (by decide))
  case status =>
    exact or_and_eq_zero (or_and_eq_zero (or_and_eq_zero (or_and_eq_zero (field_and_eq_zero _ (by decide))
      (field_and_eq_zero _ (by decide))) (field_and_eq_zero _ (by decide))) (field_and_eq_zero _ (by decide)))
      (setWidth_and_eq_zero _ (by decide))
  case offset | trunc | otpBcdHi => exact setWidth_and_eq_zero _ (by decide)
  all_goals exact BitVec.and_zero

theorem digestWord_toNat (e : Engine) (i : Fin 5) :
    (e.digestWord i).toNat =
      (e.digest.toList.getD (4 * i) 0).toNat * 2 ^ 24 + (e.digest.toList.getD (4 * i + 1) 0).toNat * 2 ^ 16 +
        (e.digest.toList.getD (4 * i + 2) 0).toNat * 2 ^ 8 + (e.digest.toList.getD (4 * i + 3) 0).toNat := by
  rw [digestWord, be32_toNat, digest_toList_getD _ (by omega), digest_toList_getD _ (by omega),
    digest_toList_getD _ (by omega), digest_toList_getD _ (by omega)]

theorem engineStep_of_idle {e : Engine} (hidle : e.busy = false) : e.engineStep = e := by
  rw [engineStep, if_neg (by rw [hidle]; decide)]

theorem engineStep_done_of_busy {e : Engine} (hbusy : e.busy = true) : e.engineStep.done = true := by
  obtain ⟨_, _, hdone⟩ := engineStep_ends_job hbusy
  exact hdone

theorem reset_ctrlWord : Engine.reset.ctrlWord = 6 := by decide

/-- After the reset action every register but ID, VERSION and CTRL reads 0 (R229). -/
theorem reset_readReg {r : Reg} (hid : r ≠ .id) (hversion : r ≠ .version) (hctrl : r ≠ .ctrl) :
    Engine.reset.readReg r = 0 := by
  cases r
  case id => exact absurd rfl hid
  case version => exact absurd rfl hversion
  case ctrl => exact absurd rfl hctrl
  all_goals decide

end Engine

/-! ## Reads -/

/-- A read at any offset returns the register there, or 0, and changes nothing else (R220, R249). -/
theorem exec_decodeRead (off : Off) (d : Word) (s : State) :
    exec (decodeRead off d) s = .next (s.afterRead ((regAt off).elim 0 s.eng.readReg)) := by
  rw [decodeRead]
  cases regAt off with
  | none => exact exec_eq (.rdRsvd off d) s
  | some r => cases r <;> exact exec_eq _ s

/-- Settles O15: the decoder selects the read of the register at the offset, whose reserved bits are 0. -/
theorem alignedReadReturnsRegister : Obligations.AlignedReadReturnsRegister := by
  intro s off d haligned
  refine ⟨(regAt off).elim 0 s.eng.readReg, ?_, fun r hr => ?_, fun hr => ?_, ?_⟩
  · rw [decode_readWord off d haligned, exec_decodeRead]
  · rw [(regAt_eq_some off r).2 hr, Option.elim_some]
  · rw [regAt_eq_none_of_forall_ne hr, Option.elim_none]
  · cases regAt off with
    | none => exact BitVec.zero_and
    | some r => exact s.eng.readReg_reserved r

/-- Settles O8: the two constants are what ID and VERSION read. -/
theorem readIdAndVersionAreConstant : Obligations.ReadIdAndVersionAreConstant := fun s _ =>
  ⟨exec_eq _ s, exec_eq _ s⟩

/-- Settles O9: the fields of the two words do not overlap, so each word is the sum of its fields. -/
theorem readCtrlAndStatusShowFields : Obligations.ReadCtrlAndStatusShowFields := by
  intro s d
  refine ⟨⟨s.eng.ctrlWord, exec_eq _ s, ?_⟩, ⟨s.eng.statusWord, exec_eq _ s, ?_⟩⟩
  · simp only [Engine.ctrlWord_toNat, ite_eq_toNat_mul]
  · simp only [Engine.statusWord_toNat, ite_eq_toNat_mul, Nat.mul_one]
    cases s.eng.kstate <;> rfl

/-- Settles O10: these offsets have no storage. -/
theorem readWriteOnlyAndReservedIsZero : Obligations.ReadWriteOnlyAndReservedIsZero := fun s _ _ =>
  ⟨exec_eq _ s, exec_eq _ s, exec_eq _ s, exec_eq _ s⟩

/-- Settles O11: the halves of a 64-bit number are its quotient and remainder by 2^32. -/
theorem readKeyLengthAndCounterHalves : Obligations.ReadKeyLengthAndCounterHalves := by
  intro s d
  refine ⟨⟨_, exec_eq _ s, lowHalf_toNat _⟩, ⟨_, exec_eq _ s, highHalf_toNat _, fun hlimit => ?_⟩,
    ⟨_, exec_eq _ s, highHalf_toNat _⟩, ⟨_, exec_eq _ s, lowHalf_toNat _⟩⟩
  rw [Engine.readReg, highHalf_toNat]
  omega

/-- Settles O12: each word is four digest bytes, and its low byte decides its low nibble. -/
theorem readDigestWordsAreBigEndian : Obligations.ReadDigestWordsAreBigEndian := by
  intro s d at4
  have hword (i : Fin 5) : (s.eng.digestWord i).toNat = at4 (4 * i) := s.eng.digestWord_toNat i
  refine ⟨⟨_, exec_eq _ s, hword 0⟩, ⟨_, exec_eq _ s, hword 1⟩, ⟨_, exec_eq _ s, hword 2⟩, ⟨_, exec_eq _ s, hword 3⟩,
    ⟨_, exec_eq _ s, hword 4, ?_⟩⟩
  have hnibble : at4 16 % 16 = (s.eng.digest.toList.getD 19 0).toNat % 16 := by
    simp only [at4, Nat.reduceAdd]
    omega
  exact (congrArg (· % 16) (hword 4)).trans hnibble

/-- Settles O13: zero extension keeps the value, which is below the width of its field. -/
theorem readTruncationResults : Obligations.ReadTruncationResults := by
  intro s d
  have hoffset : (s.eng.offset.setWidth 32).toNat = s.eng.offset.toNat := BitVec.toNat_setWidth_of_le (by decide)
  have htrunc : (s.eng.trunc.setWidth 32).toNat = s.eng.trunc.toNat := BitVec.toNat_setWidth_of_le (by decide)
  exact ⟨⟨_, exec_eq _ s, hoffset, hoffset ▸ s.eng.offset.isLt⟩, ⟨_, exec_eq _ s, htrunc, htrunc ▸ s.eng.trunc.isLt⟩,
    exec_eq _ s⟩

/-! ## Writes -/

/-- Settles O16: each of these writes leaves the record as it was and gets OKAY. -/
theorem ignoredWritesChangeNothing : Obligations.IgnoredWritesChangeNothing := by
  intro s off d
  and_intros <;> exact exec_eq _ s

/-- CTRL after a CTRL write is DATA without its reserved bits (R224). -/
theorem ctrlWord_of_written {e : Engine} {d : Word} (hdigits : e.digits = operandDigits d)
    (hdoneIe : e.doneIe = operandDoneIe d) (herrIe : e.errIe = operandErrIe d) : e.ctrlWord = d &&& 0x30F := by
  have hlow := extractLsb'_field d 0 4
  rw [BitVec.shiftLeft_zero] at hlow
  rw [Engine.ctrlWord, hdigits, hdoneIe, herrIe, operandDigits, operandDoneIe, operandErrIe, flagWord, flagWord,
    ofBool_getLsbD_eq_extractLsb', ofBool_getLsbD_eq_extractLsb', extractLsb'_field, extractLsb'_field, hlow,
    ← BitVec.and_or_distrib_left, ← BitVec.and_or_distrib_left]
  rfl

/-- Settles O17: the record after the write has the three fields of DATA, and CTRL and IRQ are computed from it. -/
theorem writeCtrlStoresFields : Obligations.WriteCtrlStoresFields := fun s d =>
  ⟨_, exec_eq (.wrCtrl d) s, rfl, ctrlWord_of_written rfl rfl rfl, rfl⟩

theorem ite_false_eq_and_not (b c : Bool) : (if b then false else c) = (c && !b) := by
  cases b <;> simp

/-- The two clears of a STATUS write are masks on DONE and ERR (R226). -/
theorem exec_wrStatus (d : Word) (s : State) :
    exec (.wrStatus d) s = .next (s.afterWrite
      { s.eng with
        done := s.eng.done && !d.getLsbD 4
        err := s.eng.err && !d.getLsbD 5
        errcode := if d.getLsbD 5 then 0 else s.eng.errcode }) := by
  rw [exec_eq, engineAfter, ite_false_eq_and_not, ite_false_eq_and_not]
  rfl

/-- Settles O18: the clears are masks, and a completion that comes later ends its job as ever. -/
theorem writeStatusClearsByOnes : Obligations.WriteStatusClearsByOnes := fun s d =>
  ⟨_, exec_wrStatus d s, rfl, rfl, fun hbusy => Engine.engineStep_done_of_busy hbusy⟩

/-- Settles O19: the written half stands beside the half that was there. -/
theorem writeCounterHalves : Obligations.WriteCounterHalves := by
  intro s d
  refine ⟨⟨_, exec_eq _ s, ?_⟩, ⟨_, exec_eq _ s, ?_⟩⟩
  · rw [joinHalves_toNat, lowHalf_toNat]
  · rw [joinHalves_toNat, highHalf_toNat]

/-! ## Immediate commands -/

/-- Settles O21: the check of BUSY is all that CMD.NOP does. -/
theorem nopOnlyChecksBusy : Obligations.NopOnlyChecksBusy := by
  refine fun s => ⟨fun hidle => ?_, fun hbusy => exec_of_refusalOf (c := .busy) (by simp [refusalOf, hbusy])⟩
  have hkeep : engineAfter .cmdNop s.eng = s.eng := by simp [engineAfter, hidle]
  rw [exec_eq, hkeep]
  rfl

/-- Settles O22: any other word is CMD.ILLEGAL, to which R311 gives an error in every state. -/
theorem illegalCommandIsRefused : Obligations.IllegalCommandIsRefused := by
  refine fun s d => ⟨fun hd => ?_, fun hbusy => exec_of_refusalOf (c := .busy) (by simp [refusalOf, hbusy]),
    fun hidle => exec_of_refusalOf (c := .badCmd) (by simp [refusalOf, hidle])⟩
  have hillegal : legalCommand d = false := by simpa [legalCommand, and_assoc] using hd
  exact (decode_writeWord 0x10 d (by decide)).trans (decodeCommand_of_illegal hillegal)

/-- Settles O23: the record after the command is the reset record, whose elements and registers are these. -/
theorem softResetSetsEveryElement : Obligations.SoftResetSetsEveryElement := by
  intro s
  obtain ⟨_, _, _, _, _, _, hreset, hillegal, _⟩ := sampleWordsDecode
  exact ⟨s.afterWrite Engine.reset, exec_eq _ s, rfl, rfl, rfl, rfl, rfl, rfl, rfl, rfl, rfl, rfl, rfl, rfl, rfl, rfl, rfl,
    rfl, rfl, rfl, rfl, rfl, rfl, rfl, rfl, rfl, rfl, Engine.reset_ctrlWord,
    fun _ => Engine.reset_readReg, Engine.engineStep_of_idle rfl, hreset, hillegal⟩

end Sys2Proof.Machine
end

section
/-! PROOF. Errors (60_exceptions.md R302 to R311): a refused operation records its error, an accepted one records none, and
the cause of each error code by the transaction written. -/

namespace Sys2Proof.Machine

/-- Settles O35: the instruction leaves the error record and gets OKAY. -/
theorem refusedOperationOnlyRecordsError : Obligations.RefusedOperationOnlyRecordsError := fun _ _ _ => exec_of_refusalOf

/-! ## Accepted operations (R311) -/

namespace Engine

variable {e : Engine}

/-- ERR and ERRCODE. -/
def errorElements (e : Engine) : Bool × BitVec 4 := (e.err, e.errcode)

theorem errorElements_eq_iff {err : Bool} {code : BitVec 4} :
    e.errorElements = (err, code) ↔ e.err = err ∧ e.errcode = code := Prod.mk_inj

theorem appendBytes_errorElements (e : Engine) (bs : List Byte) :
    (e.appendBytes bs).errorElements = e.errorElements := by
  rw [appendBytes_frame]
  rfl

/-- One check of a command: where the outcome table gives no error, the check is passed and what follows it decides
(R311). -/
theorem check_passes {p q : Prop} [Decidable p] [Decidable q] {a : ErrorCode} {r : Option ErrorCode} {x y : Engine}
    (h : (if p then some a else r) = none) (hpq : q ↔ p) (hr : r = none → x.errorElements = e.errorElements) :
    (if q then y else x).errorElements = e.errorElements := by
  by_cases hp : p
  · rw [if_pos hp] at h
    cases h
  · rw [if_neg hp] at h
    rw [if_neg (hpq.not.2 hp), hr h]

/-- An instruction to which R311 gives no error keeps ERR and ERRCODE, or is one of the two that can clear them. -/
theorem engineAfter_errorElements_of_accepted {i : Instr} (h : refusalOf i e = none) :
    (engineAfter i e).errorElements = e.errorElements ∨
      ((i = .cmdSoftReset ∨ ∃ d, i = .wrStatus d) ∧ (engineAfter i e).errorElements = (false, 0)) := by
  cases i
  case cmdSoftReset => exact .inr ⟨.inl rfl, rfl⟩
  case wrStatus d =>
    cases hclear : operandClearErr d with
    | false => exact .inl (by simp [engineAfter, errorElements, hclear])
    | true => exact .inr ⟨.inr ⟨d, rfl⟩, by simp [engineAfter, errorElements, hclear]⟩
  case cmdNop | cmdKeyClear => exact .inl (check_passes h .rfl fun _ => rfl)
  case cmdIllegal => exact .inl (check_passes h .rfl nofun)
  case cmdKeyFinal => exact .inl (check_passes h .rfl fun h => check_passes h .rfl fun _ => rfl)
  case cmdHotp =>
    exact .inl (check_passes h .rfl fun h => check_passes h .rfl fun h =>
      check_passes h (not_legalDigits_iff _) fun _ => rfl)
  case wrKeyWord | wrKeyByte =>
    exact .inl (check_passes h .rfl fun h => check_passes h .rfl fun h =>
      check_passes h .rfl fun _ => appendBytes_errorElements e _)
  all_goals exact .inl rfl

end Engine

/-- Settles O36: the instruction answers the machine with a record whose ERR and ERRCODE are kept or cleared. -/
theorem acceptedOperationRecordsNoError : Obligations.AcceptedOperationRecordsNoError := by
  refine fun i s haccepted => ⟨_, exec_eq i s, ?_⟩
  exact (Engine.engineAfter_errorElements_of_accepted haccepted).imp Engine.errorElements_eq_iff.1
    (And.imp_right Engine.errorElements_eq_iff.1)

/-! ## Causes by the transaction written (R303 to R308) -/

/-- An aligned write gets OKAY, whatever it selects. -/
theorem responseOf_decodeWrite (off : Off) (d : Word) (e : Engine) : responseOf (decodeWrite off d) e = .okay := by
  cases hr : regAt off with
  | none => rw [decodeWrite_of_none hr, responseOf]
  | some r =>
    obtain rfl := (regAt_eq_some off r).1 hr
    cases r
    case cmd =>
      change responseOf (decodeCommand d) e = .okay
      rcases decodeCommand_cases d with ⟨_, h⟩ | ⟨_, h⟩ | ⟨_, h⟩ | ⟨_, h⟩ | ⟨_, h⟩ | ⟨_, h⟩ <;> rw [h, responseOf]
    all_goals rfl

/-- R311 gives an error only to a write of CMD, KEY_WORD or KEY_BYTE. -/
theorem refusalOf_decodeWrite {off : Off} (hoff : off ∉ [0x10, 0x14, 0x18]) (d : Word) (e : Engine) :
    refusalOf (decodeWrite off d) e = none := by
  cases hr : regAt off with
  | none => rw [decodeWrite_of_none hr, refusalOf]
  | some r =>
    obtain rfl := (regAt_eq_some off r).1 hr
    cases r
    case cmd | keyWord | keyByte => exact absurd (by decide) hoff
    all_goals rfl

/-- While busy, R311 gives ERR_BUSY to every command word but SOFT_RESET's (R304). -/
theorem refusalOf_decodeCommand_of_busy {d : Word} {e : Engine} (hbusy : e.busy = true) (hd : d ≠ 0xF) :
    refusalOf (decodeCommand d) e = some .busy := by
  rcases decodeCommand_cases d with ⟨_, h⟩ | ⟨_, h⟩ | ⟨_, h⟩ | ⟨_, h⟩ | ⟨hreset, _⟩ | ⟨_, h⟩
  case inr.inr.inr.inr.inl => exact absurd hreset hd
  all_goals
    rw [h]
    exact if_pos hbusy

/-- A write whose instruction R311 gives no error gets OKAY, and an error it leaves recorded is the one that was. -/
theorem exec_writeWord_of_accepted {off : Off} {d : Word} {s : State} (haligned : off.toNat % 4 = 0)
    (haccepted : refusalOf (decodeWrite off d) s.eng = none) :
    ∃ t : State, exec (decode (writeWord off d)) s = .next t ∧ t.resp = some .okay ∧
      (t.eng.err = true → s.eng.err = true ∧ t.eng.errcode = s.eng.errcode) := by
  rw [decode_writeWord off d haligned]
  refine ⟨_, exec_eq _ s, congrArg some (responseOf_decodeWrite off d s.eng), fun herr => ?_⟩
  rcases Engine.engineAfter_errorElements_of_accepted haccepted with hkeep | ⟨_, hclear⟩
  · obtain ⟨hkeepErr, hkeepCode⟩ := Engine.errorElements_eq_iff.1 hkeep
    exact ⟨hkeepErr.symm.trans herr, hkeepCode⟩
  · obtain ⟨hclearErr, _⟩ := Engine.errorElements_eq_iff.1 hclear
    exact absurd (herr.symm.trans hclearErr) nofun

/-- Settles O37: each word decodes to the instruction whose outcomes R230, R105 to R107 and R180 give; while busy, any other
command word is refused and any other write accepted. -/
theorem errorCausesByTransaction : Obligations.ErrorCausesByTransaction := by
  intro s d
  have hcmd : decode (writeWord 0x10 d) = decodeCommand d := decode_writeWord 0x10 d (by decide)
  have hfinal : decode (writeWord 0x10 0x2) = .cmdKeyFinal := decode_writeWord 0x10 0x2 (by decide)
  have hhotp : decode (writeWord 0x10 0x3) = .cmdHotp := decode_writeWord 0x10 0x3 (by decide)
  have hword : decode (writeWord 0x14 d) = .wrKeyWord d := decode_writeWord 0x14 d (by decide)
  have hbyte : decode (writeWord 0x18 d) = .wrKeyByte d := decode_writeWord 0x18 d (by decide)
  obtain ⟨hillegal, _, hbadCmd⟩ := illegalCommandIsRefused s d
  obtain ⟨hwordBusy, hwordState, hwordLen, _⟩ := keyWordWriteAppendsFourBytes s d
  obtain ⟨hbyteBusy, hbyteState, hbyteLen, _⟩ := keyByteWriteAppendsOneByte s d
  obtain ⟨_, hfinalState, _⟩ := keyFinalStartsAndCompletes.1 s
  obtain ⟨_, hhotpKey, hhotpDigits, _⟩ := hotpIssueChecksAndLatches s
  rw [hword, hbyte, hfinal, hhotp]
  refine ⟨fun hidle hd => ?_, fun hbusy hd => ?_, fun hbusy => ⟨hwordBusy hbusy, hbyteBusy hbusy⟩,
    fun _ off haligned hoff => exec_writeWord_of_accepted haligned (refusalOf_decodeWrite hoff d s.eng),
    fun hidle hkstate => ⟨hwordState hidle hkstate, hbyteState hidle hkstate, hfinalState hidle hkstate⟩,
    hhotpKey, hhotpDigits, hwordLen, hbyteLen⟩
  · rw [hillegal hd]
    exact hbadCmd hidle
  · rw [hcmd]
    exact exec_of_refusalOf (refusalOf_decodeCommand_of_busy hbusy hd)

end Sys2Proof.Machine
end

section
/-! PROOF. Reset and hazards (70_reset_and_hazards.md R340 to R351): the pin holds the engine, and a pending job runs to its
completion whatever the host does. -/

namespace Sys2Proof.Machine

/-! ## The reset pin (R340, R342, R343) -/

section Pin

variable {s : State} {rest : List Input} {w : Bool} {size : Size} {addr : Nat} {wdata : Word}

theorem step_resetAssert (hin : s.inputs = .resetAssert :: rest) :
    step s = .next { s with rstN := false, eng := Engine.reset, inputs := rest } := by
  simp only [step, nextStep, hin, runInput, assertReset]

theorem step_resetRelease (hin : s.inputs = .resetRelease :: rest) :
    step s = .next { s with rstN := true, inputs := rest } := by
  simp only [step, nextStep, hin, runInput, releaseReset]

theorem engineTurn_held (hheld : s.rstN = false) : engineTurn s = .next s := by
  rw [engineTurn, if_neg (by rw [hheld]; decide)]

theorem hostTransaction_held (hheld : s.rstN = false) (tw : TWord) :
    hostTransaction tw s = .refused .transactionDuringReset := by
  rw [hostTransaction, if_neg (by rw [hheld]; decide)]

theorem step_engineTurn_held (hheld : s.rstN = false) (hin : s.inputs = .engineTurn :: rest) :
    step s = .next { s with inputs := rest } := by
  simp only [step, nextStep, hin, runInput]
  exact engineTurn_held (s := { s with inputs := rest }) hheld

theorem step_idle_held (hheld : s.rstN = false) (hin : s.inputs = []) : step s = .next s := by
  simp only [step, nextStep, hin]
  exact engineTurn_held hheld

theorem step_transaction_held {tw : TWord} (hheld : s.rstN = false) (hin : s.inputs = .transaction tw :: rest) :
    step s = .refused .transactionDuringReset := by
  simp only [step, nextStep, hin, runInput]
  exact hostTransaction_held (s := { s with inputs := rest }) hheld tw

theorem step_access_held {tw : TWord} (hheld : s.rstN = false) (hin : s.inputs = .access w size addr wdata :: rest)
    (hword : accessWord w size addr wdata = some tw) : step s = .refused .transactionDuringReset := by
  simp only [step, nextStep, hin, runInput, hostAccess, hword]
  exact hostTransaction_held (s := { s with inputs := rest }) hheld tw

end Pin

/-- Settles O41: a change of the pin acts at once, the held engine's turn does nothing, and a held transaction is refused; an
access takes the way of its transaction in the window and is not routed outside it. -/
theorem resetPinHoldsEngine : Obligations.ResetPinHoldsEngine := fun _ _ _ =>
  ⟨step_resetAssert, step_resetRelease, step_engineTurn_held, step_idle_held, step_transaction_held,
    fun hheld w size wdata =>
      ⟨fun off hin => step_access_held hheld hin (accessWord_base_add w size off wdata),
        fun _ haddr hin => step_access_notRouted hin (accessWord_eq_none haddr w size wdata)⟩⟩

/-! ## A pending HOTP under host transactions (R350) -/

/-- A HOTP completion leaves the key and its state (R181). -/
theorem Engine.engineStep_hotp_key {e : Engine} (hbusy : e.busy = true) (hjob : e.job = .hotp) :
    e.engineStep.kstate = e.kstate ∧ e.engineStep.k0 = e.k0 := by
  rw [Engine.engineStep_hotp hbusy hjob]
  simp

/-- Settles O54: the transactions keep the latched operands and K0, on which alone the results depend. -/
theorem pendingHotpIgnoresHostTransactions : Obligations.PendingHotpIgnoresHostTransactions := by
  intro s ts hrst hbusy hjob hts hin
  obtain ⟨u, hrun, hrst', hin', hjobs, hkeys⟩ := run_pending_transactions hrst hbusy hts hin
  obtain ⟨hbusyEq, hjobEq, hcounter, hdigits⟩ := Engine.jobElements_eq_iff.1 hjobs
  obtain ⟨hkstate, _, _, _, hk0⟩ := Engine.keyElements_eq_iff.1 hkeys
  have hbusy' : u.eng.busy = true := hbusyEq.trans hbusy
  have hjob' : u.eng.job = .hotp := hjobEq.trans hjob
  have hresults : u.eng.engineStep.results = s.eng.engineStep.results :=
    hotpResultsDependOnLatchedOperandsOnly u.eng s.eng hbusy' hjob' hbusy hjob hk0 hcounter hdigits
  obtain ⟨_, hidle, hdone⟩ := Engine.engineStep_ends_job hbusy'
  obtain ⟨hkstate', hk0'⟩ := Engine.engineStep_hotp_key hbusy' hjob'
  have hturn := (engineTurnEndsPendingJob u [] hrst').1 hin'
  exact ⟨_, (hrun 1).trans (run_one hturn), rfl, hresults, hidle, hdone, hkstate'.trans hkstate, hk0'.trans hk0⟩

/-! ## The end of a run (R351) -/

/-- No job is pending after the engine's turn. -/
theorem Engine.engineStep_not_busy (e : Engine) : e.engineStep.busy = false := by
  cases hbusy : e.busy with
  | false => rw [Engine.engineStep_of_idle hbusy, hbusy]
  | true =>
    obtain ⟨_, hidle, _⟩ := Engine.engineStep_ends_job hbusy
    exact hidle

/-- Out of reset a transaction or an engine's turn is taken from the inputs and leaves the pin released. -/
theorem step_ordinary {s : State} {i : Input} {rest : List Input} (hrst : s.rstN = true)
    (hordinary : i.isOrdinary = true) (hin : s.inputs = i :: rest) :
    ∃ t : State, step s = .next t ∧ t.rstN = true ∧ t.inputs = rest := by
  cases i with
  | transaction tw => exact ⟨_, (step_transaction hrst hin).trans (exec_eq _ _), hrst, rfl⟩
  | engineTurn => exact ⟨_, (engineTurnEndsPendingJob s rest hrst).1 hin, hrst, rfl⟩
  | access => cases hordinary
  | resetAssert => cases hordinary
  | resetRelease => cases hordinary

/-- Settles O56: each ordinary input is taken with the pin left released, and the idle host's step is the engine's turn. -/
theorem pendingJobCompletesWhenHostIsIdle : Obligations.PendingJobCompletesWhenHostIsIdle := by
  intro s hrst hordinary
  induction hin : s.inputs generalizing s with
  | nil =>
    obtain ⟨_, hturn, _⟩ := engineTurnEndsPendingJob s [] hrst
    exact ⟨_, run_one (hturn hin), hin, hrst, s.eng.engineStep_not_busy⟩
  | cons i rest ih =>
    rw [hin] at hordinary
    obtain ⟨u, hstep, hrst', hin'⟩ := step_ordinary hrst (hordinary i List.mem_cons_self) hin
    obtain ⟨t, hrun, hend⟩ := ih u hrst' (hin' ▸ fun j hj => hordinary j (List.mem_cons_of_mem i hj)) hin'
    exact ⟨t, (run_succ _ hstep).trans hrun, hend⟩

end Sys2Proof.Machine
end
